-- ==== Sys2Proof/Word.lean ====
section
/-! DEFINITION. The word types of the VL3208 and the two vector helpers the model uses: bytes, words,
byte addresses (26 bits), line addresses (21 bits), bank, initiator and slot numbers. -/

namespace Sys2Proof

/-- Eight bits: a byte lane, a register number, an argument byte. -/
abbrev Byte := BitVec 8

/-- A word is 4 bytes (00, Table 0-3). Byte lane j is bits 8j+7 to 8j. DESIGN CHOICE: log 17. -/
abbrev Word := BitVec 32

/-- A byte address, 0 to 67,108,863 (00, Conventions). -/
abbrev ByteAddr := BitVec 26

/-- A line address: a byte address divided by 32; 21 bits (00, Table 0-3). -/
abbrev LineAddr := BitVec 21

/-- One of the eight banks (00, Table 0-3). -/
abbrev BankNo := Fin 8

/-- One of the eight bus masters (00, Table 0-3). -/
abbrev Initiator := Fin 8

/-- One of the 32 places of the Line Store (00, Table 0-3). -/
abbrev SlotNo := Fin 32

/-- Apply `f` at place `i` of a vector and leave every other place alone. -/
def updAt {α : Type} {n : Nat} (v : Vector α n) (i : Fin n) (f : α → α) : Vector α n :=
  v.set i (f v[i])

/-- Apply `f` at every place of a vector. -/
def mapAll {α β : Type} {n : Nat} (v : Vector α n) (f : α → β) : Vector β n :=
  Vector.ofFn fun i => f v[i]

end Sys2Proof
end

