-- ==== Sys2Proof/Config.lean ====
section
/-! DEFINITION. What the part fixes: its capacities (00, Table 0-6) and the power-on values of its
configuration registers (10, Table 10-5). The spec leaves no value inside the part open, so there is no
free value here; what memory holds lies outside the part (log 27). -/

namespace Sys2Proof.Config

/-- The Hold Queue holds at most 16 entries (R53, law L3). -/
def holdCapacity : Nat := 16

/-- No initiator has more than 4 unanswered requests (R58, law L3). -/
def unansweredLimit : Nat := 4

/-- The Fault Log holds at most 8 records (R154, law L9). -/
def logCapacity : Nat := 8

/-- Each bank holds 262,144 lines (00, Conventions). -/
def bankLines : Nat := 262144

/-- Bytes of a bank: 8 MiB (00, Table 0-6). -/
def bankBytes : Nat := 8388608

/-- A fault record is shifted out in 16 result bytes (Table 10-2, Table 10-6). -/
def recordBytes : Nat := 16

/-- BANKS FITTED after power-on reset (R191). -/
def banksFitted : BitVec 4 := 8

/-- TICK DIV after power-on reset (R191). -/
def tickDiv : BitVec 7 := 25

/-- HWM after power-on reset (R193). -/
def hwm : BitVec 6 := 24

/-- AGE LIMIT after power-on reset, in milliseconds (R193). -/
def ageLimit : BitVec 10 := 100

/-- SETTLE LIMIT after power-on reset, in units of 10 microseconds (R193). -/
def settleLimit : BitVec 8 := 50

/-- ACCESS LIMIT after power-on reset, in microseconds (R193). -/
def accessLimit : BitVec 8 := 64

end Sys2Proof.Config
end

