-- ==== Sys2Proof/Syntax.lean ====
section
/-! DEFINITION. The commands of the part: one constructor of `Instr` for each row of
spec/opcode_table.json, with the operands its rules give it. -/

namespace Sys2Proof

/-- What a bank's PSTAT lines report: a level, or the fourth combination, which names no level
(Table 10-9). -/
inductive StatusLevel where
  | off
  | retain
  | active
  | fourth
  deriving DecidableEq, Repr

/-- One word of a write with its four byte enables, one for each byte lane (Table 2-1). -/
structure WordWrite where
  data    : Word
  enables : BitVec 4
  deriving DecidableEq, Repr

/-- The kind of a request with what that kind carries (Table 2-1): a READ has a word count, a WRITE has
one data word with enables for each word of its count. -/
inductive Access where
  | read (count : Nat)
  | write (words : List WordWrite)
  deriving DecidableEq, Repr

/-- A request of the S port (R28, Table 2-1). -/
structure Request where
  initiator : Initiator
  tag       : BitVec 4
  address   : ByteAddr
  access    : Access
  deriving DecidableEq, Repr

/-- What a completion reports (R122). -/
inductive Report where
  | ok
  | error
  deriving DecidableEq, Repr

/-- The commands (events) of the part, one constructor for each row of the table. -/
inductive Instr where
  /-- The system bus presents a request to the S port (R29). -/
  | requestTaken (r : Request)
  /-- Memory returns a completion with its operation number (R125); of `data` the first words, as many
  as the count of a WORD READ, are the data words placed as R3 gives. -/
  | completion (number : BitVec 8) (report : Report) (data : Vector Word 8)
  /-- The access timer of the operation in flight expires (R131). -/
  | accessTimeout
  /-- A bank's settle timer expires (R75). -/
  | settleTimeout (bank : BankNo)
  /-- A bank's PSTAT and PSET lines come to the given values (R76). -/
  | statusLineChange (bank : BankNo) (level : StatusLevel) (settled : Bool)
  /-- A bank's idle timer expires (R83). -/
  | idleTimerExpiry (bank : BankNo)
  /-- A bank's off timer expires (R84). -/
  | offTimerExpiry (bank : BankNo)
  /-- A bank's oldest HELD line reaches AGE LIMIT (R22). -/
  | ageExpiry (bank : BankNo)
  /-- SUPWARN is asserted (R174). -/
  | supwarnAssertion
  /-- SUPWARN is negated (R175). -/
  | supwarnNegation
  /-- FLTPASS is asserted (R160). -/
  | fltpassAssertion
  /-- FLTPASS is negated (R160). -/
  | fltpassNegation
  /-- RESETn is asserted: warm reset (R71, R139). -/
  | resetnAssertion
  /-- RESETn is negated (R97). -/
  | resetnNegation
  /-- Power-on reset (R26). -/
  | powerOnReset
  /-- A frame that names no command: a command byte outside Table 10-2, or a BANK ORDER with an action
  outside Table 10-4 (R188, R89); or a frame that has begun and whose command is not complete (R187; log 19). -/
  | invalidCommand (frame : List Byte)
  /-- STATUS (R200). -/
  | status
  /-- REG READ of a register; a counter's high register captures the low half (R190, R195; log 18). -/
  | counterHighRead (register : Byte)
  /-- REG WRITE of a register without behaviour of its own (R190). -/
  | regWrite (register : Byte) (value : BitVec 16)
  /-- REG WRITE of CONFIG (R191). -/
  | configWrite (value : BitVec 16)
  /-- REG WRITE of HWM (R21, R193). -/
  | hwmWrite (value : BitVec 16)
  /-- REG WRITE of AGE LIMIT (R22, R193). -/
  | ageLimitWrite (value : BitVec 16)
  /-- REG WRITE of IRQ STATUS (R169). -/
  | irqStatusWrite (value : BitVec 16)
  /-- REG WRITE of IRQ ENABLE (R170). -/
  | irqEnableWrite (value : BitVec 16)
  /-- REG WRITE of RESET RECORD (R199). -/
  | resetRecordWrite (value : BitVec 16)
  /-- REG WRITE of BANK POLICY A of a bank (R85, R194). -/
  | bankPolicyAWrite (bank : BankNo) (value : BitVec 16)
  /-- REG WRITE of BANK POLICY B of a bank (R194). -/
  | bankPolicyBWrite (bank : BankNo) (value : BitVec 16)
  /-- REGION READ (R38). -/
  | regionRead (entry : Byte)
  /-- REGION WRITE with its argument bytes as Table 10-8 gives them (R37). -/
  | regionWrite (entry flags : Byte) (base limit : BitVec 24) (initiators : Byte)
  /-- SLOT READ (R25). -/
  | slotRead (slot : Byte)
  /-- BANK ORDER, action WAKE (R90). -/
  | wakeOrder (bank : Byte)
  /-- BANK ORDER, action RETAIN (R91). -/
  | retainOrder (bank : Byte)
  /-- BANK ORDER, action OFF (R92). -/
  | offOrder (bank : Byte)
  /-- BANK ORDER, action RETRY (R93). -/
  | retryOrder (bank : Byte)
  /-- BANK ORDER, action DISCARD (R94). -/
  | discardOrder (bank : Byte)
  /-- BANK ORDER, action CLEAR (R145). -/
  | clearOrder (bank : Byte)
  /-- BANK ORDER, action UNLOST (R142). -/
  | unlostOrder (bank : Byte)
  /-- FLUSH (R117). -/
  | flush (bank : Byte)
  /-- FLUSH ALL (R118). -/
  | flushAll
  /-- FAULT PEEK (R164). -/
  | faultPeek
  /-- FAULT POP (R165). -/
  | faultPop
  /-- MCS rises: at the end of a FAULT POP frame after `shifted` result bytes were shifted out (R165, R166; log 21), or in
  any other frame (R189; log 28). -/
  | faultPopRemoval (shifted : Nat)
  /-- CLEAR UNLOGGED (R167). -/
  | clearUnlogged (bank : Byte)
  /-- One step of the millisecond counter (R196). -/
  | millisecondCounterStep
  deriving DecidableEq, Repr

end Sys2Proof
end

