-- ==== Sys2Proof/Decode.lean ====
section
/-! DEFINITION. The table of commands gives no bits for any row, so `decodeTableWord` reads none. What
section 10 does give is the framing of management commands: their codes, argument bytes and actions
(Tables 10-2 and 10-4, R186, R187, R190). `decodeFrame` reads a frame's bytes into the command they carry,
`encodeFrame` writes them. -/

namespace Sys2Proof

/-- The number of argument bytes of each command code of Table 10-2; none for a code outside it. -/
def argumentBytes (code : Byte) : Option Nat :=
  match code.toNat with
  | 0x01 => some 0
  | 0x02 => some 1
  | 0x03 => some 3
  | 0x04 => some 1
  | 0x05 => some 9
  | 0x06 => some 1
  | 0x08 => some 2
  | 0x09 => some 1
  | 0x0A => some 0
  | 0x0C => some 0
  | 0x0D => some 0
  | 0x0E => some 1
  | _ => none

/-- The command of a BANK ORDER's action code (Table 10-4); none for a code outside the set. -/
def orderOf (bank action : Byte) : Option Instr :=
  match action.toNat with
  | 1 => some (.wakeOrder bank)
  | 2 => some (.retainOrder bank)
  | 3 => some (.offOrder bank)
  | 4 => some (.retryOrder bank)
  | 5 => some (.discardOrder bank)
  | 6 => some (.clearOrder bank)
  | 7 => some (.unlostOrder bank)
  | _ => none

/-- A number below 8 as a bank, entry or initiator number. -/
def eighth (n : Nat) : Option (Fin 8) :=
  if h : n < 8 then some ⟨n, h⟩ else none

/-- Whether a register has a REG WRITE row of its own in the table: CONFIG, HWM, AGE LIMIT, IRQ STATUS,
IRQ ENABLE, RESET RECORD and the policy registers (Table 10-5). -/
def hasOwnWriteRow (register : Byte) : Bool :=
  let n := register.toNat
  n ≤ 2 || (5 ≤ n && n ≤ 7) || (0x10 ≤ n && n ≤ 0x1F)

/-- The row that a REG WRITE of a register is (Table 10-5). -/
def registerWriteOf (register : Byte) (value : BitVec 16) : Instr :=
  match register.toNat with
  | 0x00 => .configWrite value
  | 0x01 => .hwmWrite value
  | 0x02 => .ageLimitWrite value
  | 0x05 => .irqStatusWrite value
  | 0x06 => .irqEnableWrite value
  | 0x07 => .resetRecordWrite value
  | n =>
    if 0x10 ≤ n && n ≤ 0x1F then
      match eighth (n - 0x10), eighth (n - 0x18) with
      | some b, _ => if n < 0x18 then .bankPolicyAWrite b value else .regWrite register value
      | none, some b => .bankPolicyBWrite b value
      | none, none => .regWrite register value
    else .regWrite register value

/-- A 24-bit value of three bytes, most significant first (R186). -/
def join3 (a b c : Byte) : BitVec 24 := (a ++ b ++ c : BitVec (8 + 8 + 8))

/-- A 16-bit value of two bytes, most significant first (R186). -/
def join2 (a b : Byte) : BitVec 16 := (a ++ b : BitVec (8 + 8))

/-- The command that a command byte and all of its argument bytes carry. -/
def decodeCommand (code : Byte) (args : List Byte) : Option Instr :=
  match code.toNat, args with
  | 0x01, [] => some .status
  | 0x02, [r] => some (.counterHighRead r)
  | 0x03, [r, h, l] => some (registerWriteOf r (join2 h l))
  | 0x04, [e] => some (.regionRead e)
  | 0x05, [e, f, b2, b1, b0, l2, l1, l0, i] => some (.regionWrite e f (join3 b2 b1 b0) (join3 l2 l1 l0) i)
  | 0x06, [n] => some (.slotRead n)
  | 0x08, [b, a] => some ((orderOf b a).getD (.invalidCommand [code, b, a]))
  | 0x09, [b] => some (.flush b)
  | 0x0A, [] => some .flushAll
  | 0x0C, [] => some .faultPeek
  | 0x0D, [] => some .faultPop
  | 0x0E, [b] => some (.clearUnlogged b)
  | _, _ => none

/-- The command that takes effect in a frame whose bytes shifted in are `bytes` (R186, R187): none while
an argument byte is missing; bytes from the status byte onward are ignored. A code outside Table 10-2 has
no argument bytes (R186). -/
def decodeFrame (bytes : List Byte) : Option Instr :=
  match bytes with
  | [] => none
  | code :: rest =>
    match argumentBytes code with
    | none => some (.invalidCommand [code])
    | some n => if rest.length < n then none else decodeCommand code (rest.take n)

/-- The bytes of a frame's bits, most significant bit first; the bits of an incomplete byte are discarded
(R186, R187). -/
def bytesOfBits : List Bool → List Byte
  | b7 :: b6 :: b5 :: b4 :: b3 :: b2 :: b1 :: b0 :: rest =>
    BitVec.ofNat 8 (((((((b7.toNat * 2 + b6.toNat) * 2 + b5.toNat) * 2 + b4.toNat) * 2 + b3.toNat) * 2
      + b2.toNat) * 2 + b1.toNat) * 2 + b0.toNat) :: bytesOfBits rest
  | _ => []

/-- The two bytes of a 16-bit value, most significant first (R186). -/
def split2 (v : BitVec 16) : List Byte := [v.extractLsb' 8 8, v.extractLsb' 0 8]

/-- The three bytes of a 24-bit value, most significant first (R186). -/
def split3 (v : BitVec 24) : List Byte := [v.extractLsb' 16 8, v.extractLsb' 8 8, v.extractLsb' 0 8]

/-- The frame of a REG WRITE. -/
def writeFrame (register : Nat) (value : BitVec 16) : List Byte :=
  0x03#8 :: BitVec.ofNat 8 register :: split2 value

/-- The bytes of the frame that carries a management command, up to the one at which it takes effect;
none for the rows that are no management command. -/
def encodeFrame (i : Instr) : Option (List Byte) :=
  match i with
  | .requestTaken _ => none
  | .completion _ _ _ => none
  | .accessTimeout => none
  | .settleTimeout _ => none
  | .statusLineChange _ _ _ => none
  | .idleTimerExpiry _ => none
  | .offTimerExpiry _ => none
  | .ageExpiry _ => none
  | .supwarnAssertion => none
  | .supwarnNegation => none
  | .fltpassAssertion => none
  | .fltpassNegation => none
  | .resetnAssertion => none
  | .resetnNegation => none
  | .powerOnReset => none
  | .invalidCommand frame => some frame
  | .status => some [0x01]
  | .counterHighRead r => some [0x02, r]
  | .regWrite r v => some (writeFrame r.toNat v)
  | .configWrite v => some (writeFrame 0x00 v)
  | .hwmWrite v => some (writeFrame 0x01 v)
  | .ageLimitWrite v => some (writeFrame 0x02 v)
  | .irqStatusWrite v => some (writeFrame 0x05 v)
  | .irqEnableWrite v => some (writeFrame 0x06 v)
  | .resetRecordWrite v => some (writeFrame 0x07 v)
  | .bankPolicyAWrite b v => some (writeFrame (0x10 + b.val) v)
  | .bankPolicyBWrite b v => some (writeFrame (0x18 + b.val) v)
  | .regionRead e => some [0x04, e]
  | .regionWrite e f base limit ini => some ([0x05, e, f] ++ split3 base ++ split3 limit ++ [ini])
  | .slotRead n => some [0x06, n]
  | .wakeOrder b => some [0x08, b, 1]
  | .retainOrder b => some [0x08, b, 2]
  | .offOrder b => some [0x08, b, 3]
  | .retryOrder b => some [0x08, b, 4]
  | .discardOrder b => some [0x08, b, 5]
  | .clearOrder b => some [0x08, b, 6]
  | .unlostOrder b => some [0x08, b, 7]
  | .flush b => some [0x09, b]
  | .flushAll => some [0x0A]
  | .faultPeek => some [0x0C]
  | .faultPop => some [0x0D]
  | .faultPopRemoval _ => none
  | .clearUnlogged b => some [0x0E, b]
  | .millisecondCounterStep => none

/-- Whether a frame names no command: its code is outside Table 10-2, or it is a BANK ORDER whose action
is outside Table 10-4 (R188, R89). -/
def namesNoCommand (frame : List Byte) : Bool :=
  match frame with
  | [code] => (argumentBytes code).isNone
  | [code, b, a] => code == 0x08 && (orderOf b a).isNone
  | _ => false

/-- Whether a request can be presented: its word count is 1 to 8 (R28). -/
def Request.presentable (r : Request) : Bool :=
  let n := match r.access with
    | .read count => count
    | .write words => words.length
  1 ≤ n && n ≤ 8

/-- spec/opcode_table.json gives no bits for any row: no word spells a command. -/
def decodeTableWord (_nbits _w : Nat) : Option Instr := none

end Sys2Proof
end

