-- ==== Sys2Proof/WellFormed.lean ====
section
/-! DEFINITION. The checks on a command's operands that its type does not make. -/

namespace Sys2Proof

/-- A command is well formed when a request has one to eight words (R28), an INVALID_COMMAND's frame names
no command (R188; an incomplete one is carried out, but carries no command: log 19), a REG_WRITE's register has no row of its own (Table 10-5), and a FAULT_POP_REMOVAL
counts no more result bytes than a record has (Table 10-6). -/
def Instr.wellFormed (i : Instr) : Bool :=
  match i with
  | .requestTaken r => r.presentable
  | .completion _ _ _ => true
  | .accessTimeout => true
  | .settleTimeout _ => true
  | .statusLineChange _ _ _ => true
  | .idleTimerExpiry _ => true
  | .offTimerExpiry _ => true
  | .ageExpiry _ => true
  | .supwarnAssertion => true
  | .supwarnNegation => true
  | .fltpassAssertion => true
  | .fltpassNegation => true
  | .resetnAssertion => true
  | .resetnNegation => true
  | .powerOnReset => true
  | .invalidCommand frame => namesNoCommand frame
  | .status => true
  | .counterHighRead _ => true
  | .regWrite register _ => !hasOwnWriteRow register
  | .configWrite _ => true
  | .hwmWrite _ => true
  | .ageLimitWrite _ => true
  | .irqStatusWrite _ => true
  | .irqEnableWrite _ => true
  | .resetRecordWrite _ => true
  | .bankPolicyAWrite _ _ => true
  | .bankPolicyBWrite _ _ => true
  | .regionRead _ => true
  | .regionWrite _ _ _ _ _ => true
  | .slotRead _ => true
  | .wakeOrder _ => true
  | .retainOrder _ => true
  | .offOrder _ => true
  | .retryOrder _ => true
  | .discardOrder _ => true
  | .clearOrder _ => true
  | .unlostOrder _ => true
  | .flush _ => true
  | .flushAll => true
  | .faultPeek => true
  | .faultPop => true
  | .faultPopRemoval shifted => shifted ≤ Config.recordBytes
  | .clearUnlogged _ => true
  | .millisecondCounterStep => true

/-- The rows that are management commands carried by a frame (Table 10-1). -/
def Instr.isFrameCommand (i : Instr) : Bool := (encodeFrame i).isSome

end Sys2Proof
end

