-- ==== Sys2Proof/Machine/State.lean ====
section
/-! DEFINITION. The state of the part as plain data, grouped by the block that owns it (00, Functional
Overview), its power-on values, and the reasons a step can stop. Values that the spec defines as functions
of others (fill level, line and entry counts, unanswered counts, pressure, age-expired indications, SAFE,
IRQ and its level causes) are computed in Machine/Flags.lean, not stored (log 23). -/

namespace Sys2Proof.Machine

/-! ## Line Store (section 1) -/

/-- Whether the drain write of a slot's line is in flight (Table 1-1; a FREE slot holds no line). -/
inductive LineState where
  | held
  | draining
  deriving DecidableEq, Repr

/-- A line of the Line Store: the fields of a slot that is HELD or DRAINING (R1, Table 1-1). `bytes` is the
valid mask and the data in one: a byte whose valid flag is clear is `none` (log 22). `ageRuns` says that the first
step of the millisecond counter since the allocation or renewal, which begins the count, has passed (R197; log 10). -/
structure Line where
  state             : LineState
  addr              : LineAddr
  bytes             : Vector (Option Byte) 32
  allocatedAt       : BitVec 16
  age               : BitVec 16
  ageRuns           : Bool
  contributors      : BitVec 8
  drainContributors : BitVec 8
  redirty           : Bool
  deriving DecidableEq, Repr

/-- The Line Store: 32 slots (`none` is FREE), the age list oldest first (R5), and its counters (R23). -/
structure LineStore where
  slots          : Vector (Option Line) 32
  ageList        : List SlotNo
  absorbedWrites : BitVec 32
  servedReads    : BitVec 32
  drainedLines   : BitVec 32
  deriving DecidableEq, Repr

/-! ## Region Table (section 2) -/

/-- One entry of the Region Table (R34, Table 2-4). -/
structure Region where
  valid      : Bool
  base       : LineAddr
  limit      : LineAddr
  initiators : BitVec 8
  absorb     : Bool
  serve      : Bool
  deriving DecidableEq, Repr

/-! ## Hold Queue (section 3) -/

/-- Why an entry waits (Table 3-1). -/
inductive WaitReason where
  | order
  | bank
  | frozen
  deriving DecidableEq, Repr

/-- The status of an entry (R54, Table 3-2); the code of a FAILED entry is always E-BANK (Table 3-1). -/
inductive EntryStatus where
  | waiting (reason : WaitReason)
  | ready
  | issued
  | failed
  deriving DecidableEq, Repr

/-- An entry of the Hold Queue: the request as taken, and its status (R53). -/
structure Entry where
  request : Request
  status  : EntryStatus
  deriving DecidableEq, Repr

/-! ## Bank Power Controller (section 4) -/

/-- A resting level below ACTIVE: the direction of Table 10-9. -/
inductive Rest where
  | retain
  | off
  deriving DecidableEq, Repr

/-- A level driven on a bank's power request lines (Table 4-1). -/
inductive Level where
  | off
  | retain
  | active
  deriving DecidableEq, Repr

/-- The seven states of a bank, with the target, origin or stuck origin that each carries (R72, Table 4-1,
Table 4-2). -/
inductive BankState where
  | off
  | retain
  | active
  | waking (origin : Rest)
  | descending (target : Rest)
  | clearing (origin : Rest)
  | stuck (origin : Rest)
  deriving DecidableEq, Repr

/-- A timer: stopped, or running with the limit it started with and the steps of its free-running counter
counted since (R197). -/
inductive Timer where
  | stopped
  | running (limit elapsed : Nat)
  deriving DecidableEq, Repr

/-- A bank record (R72, Table 4-1). -/
structure BankRecord where
  state       : BankState
  request     : Level
  reported    : StatusLevel
  settled     : Bool
  lost        : Bool
  pendingWake : Bool
  settleTimer : Timer
  idleTimer   : Timer
  offTimer    : Timer
  wakeCount   : BitVec 16
  deriving DecidableEq, Repr

/-! ## Drain Engine (section 5) -/

/-- The set of causes of a bank's drain-wanted flag (R99). -/
structure DrainCauses where
  age      : Bool
  pressure : Bool
  flush    : Bool
  warn     : Bool
  deriving DecidableEq, Repr

/-! ## Memory port and Arbiter (section 6) -/

/-- The kind of an operation (Table 6-1). -/
inductive OpKind where
  | wordRead
  | wordWrite
  | lineWrite
  | zeroLine
  deriving DecidableEq, Repr

/-- Where a completion is routed (Table 6-1). A Hold Queue entry needs no number: it is the one ISSUED
entry (R54; log 24). -/
inductive Presenter where
  | entry
  | slot (i : SlotNo)
  | clearEngine
  deriving DecidableEq, Repr

/-- The in-flight record (R121, Table 6-1). -/
structure InFlight where
  kind        : OpKind
  number      : BitVec 8
  bank        : BankNo
  address     : ByteAddr
  count       : Nat
  presenter   : Presenter
  accessTimer : Timer
  deriving DecidableEq, Repr

/-- The alternation flag (R136). -/
inductive Turn where
  | entry
  | drain
  deriving DecidableEq, Repr

/-- The M port and the Arbiter (R121, R123, R133, R136). -/
structure MemoryPort where
  inFlight  : Option InFlight
  opNumber  : BitVec 8
  turn      : Turn
  lateCount : BitVec 8
  deriving DecidableEq, Repr

/-! ## Clear Engine (section 7) -/

/-- The Clear Engine (R143, Table 7-1); `wanted` holds the clear-pending flags. -/
structure ClearEngine where
  queue       : List BankNo
  wanted      : Vector Bool 8
  cursor      : BitVec 18
  incomplete  : Bool
  outstanding : Bool
  deriving DecidableEq, Repr

/-! ## Fault Log and Interrupt Logic (section 8) -/

/-- The kinds of fault (R155). -/
inductive FaultKind where
  | drainWriteError
  | clearWriteError
  | settleTimeout
  | accessTimeout
  | unsolicitedChange
  | linesDiscarded
  deriving DecidableEq, Repr

/-- What a block hands to the Fault Log: the kind, the bank and the optional fields of Table 8-2. -/
structure FaultReport where
  kind         : FaultKind
  bank         : BankNo
  line         : Option LineAddr
  mask         : Option (Vector Bool 32)
  contributors : Option (BitVec 8)
  count        : Option Nat
  deriving DecidableEq, Repr

/-- A record of the Fault Log (Table 8-1). -/
structure FaultRecord where
  seq       : BitVec 16
  timestamp : BitVec 16
  report    : FaultReport
  deriving DecidableEq, Repr

/-- The Fault Log (R154), oldest record first, with each bank's unlogged mark (R157) and fault hold (R158). -/
structure FaultLog where
  records  : List FaultRecord
  nextSeq  : BitVec 16
  overflow : BitVec 8
  unlogged : Vector Bool 8
  hold     : Vector Bool 8
  deriving DecidableEq, Repr

/-- The latched interrupt flags and IRQ ENABLE (R168, R170). -/
structure InterruptLogic where
  lost      : Bool
  safe      : Bool
  clearDone : Bool
  enables   : BitVec 5
  deriving DecidableEq, Repr

/-! ## Warning Logic (section 9) -/

/-- The warning mode (R173). -/
inductive WarnMode where
  | normal
  | warn
  | recover
  deriving DecidableEq, Repr

/-! ## Management port, registers and timebase (section 10) -/

/-- The policy registers of a bank (R194). -/
structure Policy where
  retainDelay : BitVec 12
  offAllowed  : Bool
  clearOnWake : Bool
  lostCheck   : Bool
  offDelay    : BitVec 12
  deriving DecidableEq, Repr

/-- The writable registers, the captured halves of the counters (R195) and the RESET RECORD (R199). -/
structure Registers where
  banksFitted  : BitVec 4
  tickDiv      : BitVec 7
  hwm          : BitVec 6
  ageLimit     : BitVec 10
  settleLimit  : BitVec 8
  accessLimit  : BitVec 8
  policy       : Vector Policy 8
  absorbedLow  : BitVec 16
  servedLow    : BitVec 16
  drainedLow   : BitVec 16
  resetCount   : BitVec 8
  linesAtReset : BitVec 8
  deriving DecidableEq, Repr

/-- The timebase (R196): the divider's count of CLK cycles, the phases of the four free-running counters,
and the millisecond time. -/
structure Timebase where
  divider    : Nat
  tenMicro   : Nat
  hundred    : Nat
  milli      : Nat
  tenMilli   : Nat
  msTime     : BitVec 16
  deriving DecidableEq, Repr

/-- The levels of the input lines as driven from outside: SUPWARN, FLTPASS and RESETn (true is asserted),
MCS (true is low, in a frame that `mgmt` does not show; log 28), and each bank's PSTAT and PSET lines (Table 0-2). -/
structure Pins where
  supwarn : Bool
  fltpass : Bool
  resetn  : Bool
  mcsLow  : Bool
  pstat   : Vector StatusLevel 8
  pset    : Vector Bool 8
  deriving DecidableEq, Repr

/-- The status codes of the management port (Table 10-3). -/
inductive MgmtStatus where
  | done
  | busy
  | badarg
  | refused
  | empty
  deriving DecidableEq, Repr

/-- The frame whose command has taken effect: how many bytes were shifted in after the command byte, the
status byte and the captured results (R187), and whether it is a FAULT POP that marked the head record
(R165). -/
structure Frame where
  argBytes  : Nat
  status    : MgmtStatus
  results   : List Byte
  popMarked : Bool
  deriving DecidableEq, Repr

/-! ## Outputs -/

/-- The response codes of the S port (Table 0-4). -/
inductive Code where
  | ok
  | eDecode
  | eMemory
  | eBank
  | eLost
  deriving DecidableEq, Repr

/-- A response of the S port (R30, Table 2-2). -/
structure Response where
  initiator : Initiator
  tag       : BitVec 4
  code      : Code
  data      : List Word
  deriving DecidableEq, Repr

/-- An operation as the M port sends it (R122, Table 6-2). A LINE WRITE carries the slot's bytes, each with
its valid flag. -/
inductive MemOp where
  | wordRead (address : ByteAddr) (count : Nat)
  | wordWrite (address : ByteAddr) (words : List WordWrite)
  | lineWrite (address : ByteAddr) (bytes : Vector (Option Byte) 32)
  | zeroLine (address : ByteAddr)
  deriving DecidableEq, Repr

/-- An operation issued on the M port with its operation number (R123). -/
structure IssuedOp where
  number : BitVec 8
  op     : MemOp
  deriving DecidableEq, Repr

/-- What has left the part, in order: the model's own record (log 4). -/
structure Outputs where
  responses : List Response
  issued    : List IssuedOp
  deriving DecidableEq, Repr

/-! ## The state -/

/-- The state of the part, with the queue of commands that wait (log 1). `awaitRise` says that MCS was low at the end of
power-on reset and has not risen since: the management port takes no frame (R189; log 28). -/
structure State where
  store     : LineStore
  regions   : Vector Region 8
  queue     : List Entry
  banks     : Vector BankRecord 8
  causes    : Vector DrainCauses 8
  port      : MemoryPort
  clear     : ClearEngine
  faults    : FaultLog
  irq       : InterruptLogic
  mode      : WarnMode
  regs      : Registers
  clock     : Timebase
  pins      : Pins
  mgmt      : Option Frame
  awaitRise : Bool
  out       : Outputs
  pending   : List Instr
  deriving DecidableEq, Repr

/-- The reasons the machine stops. The part itself never stops: it has no command without an effect. -/
inductive Fault where
  /-- Raised by `execRequestTaken` for a request of no words or of more than eight words, which cannot be
  presented (R28), and by `execInvalidCommand` for a frame that does name a command, which is another row.
  Safe: no such command reaches the part (log 6). -/
  | cannotBePresented
  deriving DecidableEq, Repr

/-- The reasons a command is refused. -/
inductive Refusal where
  /-- Raised by `exec` for a row without a meaning; none is left. Safe. -/
  | notModelled (mnemonic : String)
  deriving DecidableEq, Repr

/-! ## Power-on values -/

/-- A bank record at power-on reset with its status lines reporting settled at OFF (R96; log 2). -/
def BankRecord.reset : BankRecord where
  state       := .off
  request     := .off
  reported    := .off
  settled     := true
  lost        := true
  pendingWake := false
  settleTimer := .stopped
  idleTimer   := .stopped
  offTimer    := .stopped
  wakeCount   := 0

/-- The empty set of causes (R119). -/
def DrainCauses.none : DrainCauses := ⟨false, false, false, false⟩

/-- An invalid region entry (R34). -/
def Region.reset : Region := ⟨false, 0, 0, 0, false, false⟩

/-- Policy registers at power-on reset (R194). -/
def Policy.reset : Policy := ⟨0, false, false, false, 0⟩

/-- The Line Store at power-on reset (R26). -/
def LineStore.reset : LineStore := ⟨Vector.replicate 32 none, [], 0, 0, 0⟩

/-- The M port at power-on reset (R138). -/
def MemoryPort.reset : MemoryPort := ⟨none, 0, .entry, 0⟩

/-- The Clear Engine at power-on reset (R153). -/
def ClearEngine.reset : ClearEngine := ⟨[], Vector.replicate 8 false, 0, false, false⟩

/-- The Fault Log at power-on reset (R171). -/
def FaultLog.reset : FaultLog := ⟨[], 0, 0, Vector.replicate 8 false, Vector.replicate 8 false⟩

/-- The Interrupt Logic at power-on reset (R171). -/
def InterruptLogic.reset : InterruptLogic := ⟨false, false, false, 0⟩

/-- The registers at power-on reset (Table 10-5). -/
def Registers.reset : Registers where
  banksFitted  := Config.banksFitted
  tickDiv      := Config.tickDiv
  hwm          := Config.hwm
  ageLimit     := Config.ageLimit
  settleLimit  := Config.settleLimit
  accessLimit  := Config.accessLimit
  policy       := Vector.replicate 8 Policy.reset
  absorbedLow  := 0
  servedLow    := 0
  drainedLow   := 0
  resetCount   := 0
  linesAtReset := 0

/-- The timebase at power-on reset (R196). -/
def Timebase.reset : Timebase := ⟨0, 0, 0, 0, 0, 0⟩

/-- The input lines the model starts with: SUPWARN, FLTPASS and RESETn negated, MCS high, and every bank's memory
reporting settled at OFF. DESIGN CHOICE, unsafe: log 2. -/
def Pins.reset : Pins := ⟨false, false, false, false, Vector.replicate 8 .off, Vector.replicate 8 true⟩

/-- The part right after power-on reset. -/
def State.reset : State where
  store     := LineStore.reset
  regions   := Vector.replicate 8 Region.reset
  queue     := []
  banks     := Vector.replicate 8 BankRecord.reset
  causes    := Vector.replicate 8 DrainCauses.none
  port      := MemoryPort.reset
  clear     := ClearEngine.reset
  faults    := FaultLog.reset
  irq       := InterruptLogic.reset
  mode      := .normal
  regs      := Registers.reset
  clock     := Timebase.reset
  pins      := Pins.reset
  mgmt      := none
  awaitRise := false
  out       := ⟨[], []⟩
  pending   := []

end Sys2Proof.Machine
end

