-- ==== Sys2Proof/Machine/Operands.lean ====
section
/-! DEFINITION. How a request's fields name lines and bytes (R3, R28, R32), what its words and enables put
in a line or take from one, and how values are laid out in bytes on the management port (R186). -/

namespace Sys2Proof

namespace Request

/-- The line address of a request: its byte address divided by 32 (R28). -/
def line (r : Request) : LineAddr := BitVec.ofNat 21 (r.address.toNat / 32)

/-- The bank of a request: the top three bits of its byte address (R28). -/
def bank (r : Request) : BankNo :=
  ⟨r.address.toNat / Config.bankBytes, Nat.div_lt_of_lt_mul (by simpa [Config.bankBytes] using r.address.isLt)⟩

/-- The word offset within the line (R3). -/
def offset (r : Request) : Nat := r.address.toNat % 32 / 4

/-- The word count (R28). -/
def count (r : Request) : Nat :=
  match r.access with
  | .read count => count
  | .write words => words.length

/-- Whether the request is a WRITE. -/
def isWrite (r : Request) : Bool :=
  match r.access with
  | .read _ => false
  | .write _ => true

/-- The data words of a request: those of a WRITE, none of a READ. -/
def words (r : Request) : List WordWrite :=
  match r.access with
  | .read _ => []
  | .write words => words

/-- Whether byte `n` of the line is one of the requested bytes (R3). -/
def requests (r : Request) (n : Nat) : Bool := r.offset ≤ n / 4 && n / 4 < r.offset + r.count

/-- The written word that occupies byte `n` of the line, if one does (R3). -/
def wordAt? (r : Request) (n : Nat) : Option WordWrite :=
  if r.offset ≤ n / 4 then r.words[n / 4 - r.offset]? else none

/-- A WRITE whose byte enables are all clear, in every word (R33). -/
def isZeroEnable (r : Request) : Bool := r.isWrite && r.words.all fun w => w.enables == 0

end Request

namespace Machine

/-- Byte lane `j` of a word (R3; log 17). -/
def lane (w : Word) (j : Nat) : Byte := w.extractLsb' (8 * j) 8

/-- The word of four byte lanes, lane 0 first (R3; log 17). -/
def wordOfLanes (b0 b1 b2 b3 : Byte) : Word := (b3 ++ b2 ++ b1 ++ b0 : BitVec (8 + 8 + 8 + 8))

/-- The byte that a request writes at byte `n` of the line: none where no enabled byte lands (R3). -/
def writtenByte (r : Request) (n : Nat) : Option Byte :=
  match r.wordAt? n with
  | some w => if w.enables.getLsbD (n % 4) then some (lane w.data (n % 4)) else none
  | none => none

/-- The bytes of a line with nothing valid. -/
def noBytes : Vector (Option Byte) 32 := Vector.replicate 32 none

/-- Place a write's enabled bytes in a line; every other byte keeps its data and its valid flag (R8). -/
def mergeBytes (r : Request) (old : Vector (Option Byte) 32) : Vector (Option Byte) 32 :=
  Vector.ofFn fun n => (writtenByte r n.val).or old[n]

/-- Byte `n` of a line, if it is valid. -/
def byteOf (bytes : Vector (Option Byte) 32) (n : Nat) : Option Byte := (bytes[n]?).getD none

/-- Whether every requested byte is valid in a line (R17). -/
def covers (bytes : Vector (Option Byte) 32) (r : Request) : Bool :=
  (List.finRange 32).all fun n => !r.requests n.val || (bytes[n]).isSome

/-- Data word `i` of a served read: line bytes 4(w+i) to 4(w+i)+3 (R18, R3). Bytes that are not valid read
as zero, as they hold zero (R1). -/
def servedWord (bytes : Vector (Option Byte) 32) (r : Request) (i : Nat) : Word :=
  let b (j : Nat) := (byteOf bytes (4 * (r.offset + i) + j)).getD 0
  wordOfLanes (b 0) (b 1) (b 2) (b 3)

/-- The data words of a served read (R18). -/
def servedWords (bytes : Vector (Option Byte) 32) (r : Request) : List Word :=
  (List.range r.count).map (servedWord bytes r)

/-- Data word `i` of a forwarded read: each valid byte of the line replaces the byte that memory returned
(R19). -/
def overlaidWord (bytes : Vector (Option Byte) 32) (r : Request) (data : Vector Word 8) (i : Nat) : Word :=
  let m := (data[i]?).getD 0
  let b (j : Nat) := (byteOf bytes (4 * (r.offset + i) + j)).getD (lane m j)
  wordOfLanes (b 0) (b 1) (b 2) (b 3)

/-- The data words of a forwarded read answered OK (R19). -/
def overlaidWords (bytes : Vector (Option Byte) 32) (r : Request) (data : Vector Word 8) : List Word :=
  (List.range r.count).map (overlaidWord bytes r data)

/-- The bank of a line: its line address divided by 262,144 (R1). -/
def Line.bank (l : Line) : BankNo :=
  ⟨l.addr.toNat / Config.bankLines, Nat.div_lt_of_lt_mul (by simpa [Config.bankLines] using l.addr.isLt)⟩

/-- The byte mask of a line: which of its bytes are valid (R1). -/
def maskOf (bytes : Vector (Option Byte) 32) : Vector Bool 32 := mapAll bytes Option.isSome

/-- A line's first byte address (R110). -/
def firstByte (a : LineAddr) : ByteAddr := BitVec.ofNat 26 (a.toNat * 32)

/-- The line that holds a byte address (R131). -/
def lineOfByte (a : ByteAddr) : LineAddr := BitVec.ofNat 21 (a.toNat / 32)

/-- The line address of line `n` of a bank (R149). -/
def lineInBank (b : BankNo) (n : Nat) : LineAddr := BitVec.ofNat 21 (b.val * Config.bankLines + n)

/-- A set of initiators with one more member (R8). -/
def addInitiator (set : BitVec 8) (i : Initiator) : BitVec 8 := set ||| (1#8 <<< i.val)

/-- A counter that stops at its maximum (00, Conventions). -/
def satInc {w : Nat} (c : BitVec w) : BitVec w := if c = BitVec.allOnes w then c else c + 1

/-- `n` bytes of a value, most significant first (R186). -/
def bytesOf (n v : Nat) : List Byte :=
  (List.range n).map fun k => BitVec.ofNat 8 (v / 256 ^ (n - 1 - k))

/-- The value of a list of flags, the first the least significant bit. -/
def flagsValue : List Bool → Nat
  | [] => 0
  | b :: rest => b.toNat + 2 * flagsValue rest

/-- The status level that a request level equals when memory follows it. -/
def Level.status (l : Level) : StatusLevel :=
  match l with
  | .off => .off
  | .retain => .retain
  | .active => .active

/-- The request level of a resting state. -/
def Rest.level (r : Rest) : Level :=
  match r with
  | .retain => .retain
  | .off => .off

/-- The bank state at rest. -/
def Rest.state (r : Rest) : BankState :=
  match r with
  | .retain => .retain
  | .off => .off

/-- The code of a level (Table 10-9). -/
def Level.code (l : Level) : Nat :=
  match l with
  | .off => 0
  | .retain => 1
  | .active => 2

/-- The code of a reported level (Table 10-9). -/
def statusCode (l : StatusLevel) : Nat :=
  match l with
  | .off => 0
  | .retain => 1
  | .active => 2
  | .fourth => 3

end Machine
end Sys2Proof
end

