-- ==== Sys2Proof/Machine/Flags.lean ====
section
/-! DEFINITION. The values the spec defines as functions of the state: line counts, fill level, pressure,
age-expired indications, entry counts, wake demands, freeze, timer conditions, SAFE, the interrupt causes
and IRQ. Each is computed from the one place where its facts are stored (log 23). -/

namespace Sys2Proof.Machine

/-- Whether a Timer runs. -/
def Timer.isRunning (t : Timer) : Bool :=
  match t with
  | .stopped => false
  | .running _ _ => true

/-- A timer started with a limit (R197). -/
def Timer.start (limit : Nat) : Timer := .running limit 0

/-- One step of a timer's free-running counter (R197). -/
def Timer.count (t : Timer) : Timer :=
  match t with
  | .stopped => .stopped
  | .running limit elapsed => .running limit (elapsed + 1)

/-- Whether a timer of N units has counted N + 1 steps, so that it has expired (R197; log 9). -/
def Timer.isDue (t : Timer) : Bool :=
  match t with
  | .stopped => false
  | .running limit elapsed => limit < elapsed

/-- Whether a set holds any cause: the drain-wanted flag (R99). -/
def DrainCauses.any (c : DrainCauses) : Bool := c.age || c.pressure || c.flush || c.warn

/-- A bank that is asleep: RETAIN, DESCENDING or WAKING (section 2, part 2.4). -/
def BankState.isAsleep (st : BankState) : Bool :=
  match st with
  | .retain => true
  | .waking _ => true
  | .descending _ => true
  | .off => false
  | .active => false
  | .clearing _ => false
  | .stuck _ => false

/-- Whether a bank is STUCK. -/
def BankState.isStuck (st : BankState) : Bool :=
  match st with
  | .stuck _ => true
  | .off => false
  | .retain => false
  | .active => false
  | .waking _ => false
  | .descending _ => false
  | .clearing _ => false

/-- Whether a bank is CLEARING. -/
def BankState.isClearing (st : BankState) : Bool :=
  match st with
  | .clearing _ => true
  | .off => false
  | .retain => false
  | .active => false
  | .waking _ => false
  | .descending _ => false
  | .stuck _ => false

/-- Whether a transition is outstanding: WAKING or DESCENDING (R73). -/
def BankState.inTransition (st : BankState) : Bool :=
  match st with
  | .waking _ => true
  | .descending _ => true
  | .off => false
  | .retain => false
  | .active => false
  | .clearing _ => false
  | .stuck _ => false

/-- The states in which a write may be absorbed by allocation: RETAIN, DESCENDING with target RETAIN,
WAKING with origin RETAIN (R45). -/
def BankState.mayAllocate (st : BankState) : Bool :=
  match st with
  | .retain => true
  | .waking .retain => true
  | .descending .retain => true
  | .waking .off => false
  | .descending .off => false
  | .off => false
  | .active => false
  | .clearing _ => false
  | .stuck _ => false

/-- The stuck origin that follows from the state a bank leaves for STUCK (R86). -/
def BankState.stuckOrigin (st : BankState) : Rest :=
  match st with
  | .off => .off
  | .descending .off => .off
  | .waking .off => .off
  | .clearing _ => .off
  | .retain => .retain
  | .active => .retain
  | .descending .retain => .retain
  | .waking .retain => .retain
  | .stuck o => o

/-- Whether a bank's status lines report settled at its request level (R74). -/
def BankRecord.atRequest (b : BankRecord) : Bool := b.settled && b.reported == b.request.status

/-- Whether a slot holds a line in the given state. -/
def slotIs (st : LineState) (o : Option Line) : Bool :=
  match o with
  | some l => l.state == st
  | none => false

/-- Whether a slot holds a line of a bank. -/
def slotOfBank (b : BankNo) (o : Option Line) : Bool :=
  match o with
  | some l => l.bank == b
  | none => false

/-- Whether a slot holds the line of an address (R4). -/
def slotHolds (a : LineAddr) (o : Option Line) : Bool :=
  match o with
  | some l => l.addr == a
  | none => false

namespace LineStore

/-- The slot that holds a line, HELD or DRAINING, or none when the line is absent (R4). -/
def lookup (st : LineStore) (a : LineAddr) : Option SlotNo :=
  (List.finRange 32).find? fun i => slotHolds a st.slots[i]

/-- The lowest-numbered FREE slot (R7). -/
def lowestFree (st : LineStore) : Option SlotNo :=
  (List.finRange 32).find? fun i => st.slots[i].isNone

/-- The fill level: the number of occupied slots (R21). -/
def fill (st : LineStore) : Nat := st.slots.toList.countP Option.isSome

/-- The line count of a bank (R20). -/
def lineCount (st : LineStore) (b : BankNo) : Nat := st.slots.toList.countP (slotOfBank b)

/-- The oldest HELD slot of a bank: the first in the age list (R22, R107). -/
def oldestHeld (st : LineStore) (b : BankNo) : Option SlotNo :=
  st.ageList.find? fun i => slotIs .held st.slots[i] && slotOfBank b st.slots[i]

end LineStore

namespace State

/-- A bank is fitted when its number is less than BANKS FITTED (R72). -/
def fitted (s : State) (b : BankNo) : Bool := b.val < s.regs.banksFitted.toNat

/-- The state of a bank. -/
def bankState (s : State) (b : BankNo) : BankState := s.banks[b].state

/-- The line count of a bank (R20). -/
def lineCount (s : State) (b : BankNo) : Nat := s.store.lineCount b

/-- Pressure exists while the fill level is at or above HWM (R21). -/
def pressure (s : State) : Bool := s.regs.hwm.toNat ≤ s.store.fill

/-- A bank's drain-wanted flag (R99). -/
def drainWanted (s : State) (b : BankNo) : Bool := s.causes[b].any

/-- The number of entries of a bank, in any status (R59). -/
def entryCount (s : State) (b : BankNo) : Nat := s.queue.countP fun e => e.request.bank == b

/-- The unanswered count of an initiator: the number of its entries (R57). -/
def unanswered (s : State) (i : Initiator) : Nat := s.queue.countP fun e => e.request.initiator == i

/-- Whether an operation for the bank is in flight on the M port (R121). -/
def inFlightFor (s : State) (b : BankNo) : Bool :=
  match s.port.inFlight with
  | some op => op.bank == b
  | none => false

/-- Whether a drain write is in flight: the operation in flight is a LINE WRITE (R181). -/
def drainWriteInFlight (s : State) : Bool :=
  match s.port.inFlight with
  | some op => op.kind == .lineWrite
  | none => false

/-- Whether a WORD WRITE to the line is in flight (R45). -/
def wordWriteInFlight (s : State) (a : LineAddr) : Bool :=
  match s.port.inFlight with
  | some op => op.kind == .wordWrite && lineOfByte op.address == a
  | none => false

/-- A bank is frozen while its fault hold is set and FLTPASS is negated (R160). -/
def frozen (s : State) (b : BankNo) : Bool := s.faults.hold[b] && !s.pins.fltpass

/-- Whether a record of the Fault Log names the bank (R159). -/
def recordNames (s : State) (b : BankNo) : Bool := s.faults.records.any fun r => r.report.bank == b

/-- The age-expired indication of a bank (R22). -/
def ageExpired (s : State) (b : BankNo) : Bool :=
  s.regs.ageLimit != 0 &&
    match s.store.oldestHeld b with
    | some i =>
      match s.store.slots[i] with
      | some l => s.regs.ageLimit.toNat ≤ l.age.toNat
      | none => false
    | none => false

/-- Whether an entry is WAITING(BANK) for the bank (R48). -/
def hasBankWaiter (s : State) (b : BankNo) : Bool :=
  s.queue.any fun e => e.request.bank == b && e.status == .waiting .bank

/-- Whether a wake demand on the bank stands (R77). -/
def wakeDemand (s : State) (b : BankNo) : Bool :=
  s.hasBankWaiter b || s.drainWanted b || s.clear.wanted[b] || s.clear.queue.contains b

/-- The conditions under which a bank's idle timer runs (R82); it is held stopped while RESETn is asserted
(R97) and does not run for an unfitted bank (R72). -/
def idleConditions (s : State) (b : BankNo) : Bool :=
  s.fitted b && s.bankState b == .active && s.regs.policy[b].retainDelay != 0 && s.entryCount b == 0 &&
    !s.inFlightFor b && !s.drainWanted b && !s.pins.resetn

/-- The conditions under which a bank's off timer runs (R84); it is held stopped while RESETn is asserted
(R97) and does not run for an unfitted bank (R72). -/
def offConditions (s : State) (b : BankNo) : Bool :=
  s.fitted b && s.bankState b == .retain && s.regs.policy[b].offAllowed && s.regs.policy[b].offDelay != 0 &&
    s.lineCount b == 0 && !s.pins.resetn

/-- The SAFE output: WARN, an empty store and no drain write in flight (R181, law L10). -/
def safe (s : State) : Bool := s.mode == .warn && s.store.fill == 0 && !s.drainWriteInFlight

/-- The level cause FAULT: a record in the log, or a non-zero overflow count (R168). -/
def faultCause (s : State) : Bool := !s.faults.records.isEmpty || s.faults.overflow != 0

/-- The level cause STUCK: a fitted bank is STUCK (R168). -/
def stuckCause (s : State) : Bool := (List.finRange 8).any fun b => s.fitted b && (s.bankState b).isStuck

/-- The five causes as IRQ STATUS reports them (R169, Table 10-5). -/
def irqStatus (s : State) : BitVec 5 :=
  BitVec.ofNat 5 (flagsValue [s.faultCause, s.stuckCause, s.irq.lost, s.irq.safe, s.irq.clearDone])

/-- The IRQ output: a cause is both active and enabled (R170). -/
def irqAsserted (s : State) : Bool := (s.irqStatus &&& s.irq.enables) != 0

/-- Whether a frame is in progress, so that MCS is low: a command's frame that has not ended, or the line stands low in a frame
whose command has not taken effect or was discarded (R186, R189; log 28). -/
def frameBegun (s : State) : Bool := s.pins.mcsLow || s.mgmt.isSome

/-- Whether a bank holds the PRESSURE cause: the pressure bank (R99). -/
def hasPressureBank (s : State) : Bool := (List.finRange 8).any fun b => (s.causes[b]).pressure

end State
end Sys2Proof.Machine
end

