-- ==== Sys2Proof/Machine/Ops.lean ====
section
/-! DEFINITION. The named operations over the part's state, block by block: the slot's changes (section 1),
responses (R30), the Fault Log (section 8), power transitions (section 4), the drain-wanted flag
(section 5), the Clear Engine (section 7) and the reply of the management port (R187). Each writes only the
blocks its rule names. -/

namespace Sys2Proof.Machine

/-! ## Line Store -/

namespace LineStore

/-- Change the line of a slot; a FREE slot is left alone. -/
def onLine (st : LineStore) (i : SlotNo) (f : Line → Line) : LineStore :=
  { st with slots := updAt st.slots i (Option.map f) }

/-- Allocation of a slot for a write (R7). -/
def allocate (st : LineStore) (i : SlotNo) (r : Request) (now : BitVec 16) : LineStore :=
  { st with
    slots := updAt st.slots i fun _ => some
      { state := .held, addr := r.line, bytes := mergeBytes r noBytes, allocatedAt := now, age := 0, ageRuns := false,
        contributors := addInitiator 0 r.initiator, drainContributors := 0, redirty := false }
    ageList := st.ageList ++ [i]
    absorbedWrites := st.absorbedWrites + 1 }

/-- What a merge does to a line: bytes and contributors (R8), and in a DRAINING slot the drain contributors
and redirty as well (R9). -/
def mergedLine (r : Request) (l : Line) : Line :=
  let l' := { l with bytes := mergeBytes r l.bytes, contributors := addInitiator l.contributors r.initiator }
  match l.state with
  | .held => l'
  | .draining => { l' with drainContributors := addInitiator l.drainContributors r.initiator, redirty := true }

/-- A merge into a slot (R8, R9). -/
def merge (st : LineStore) (i : SlotNo) (r : Request) : LineStore :=
  { st.onLine i (mergedLine r) with absorbedWrites := st.absorbedWrites + 1 }

/-- The start of a drain write: HELD to DRAINING (R11). -/
def startDrain (st : LineStore) (i : SlotNo) : LineStore :=
  st.onLine i fun l => { l with state := .draining, drainContributors := 0, redirty := false }

/-- A slot becomes FREE and leaves the age list (R5, R12, R14). -/
def free (st : LineStore) (i : SlotNo) : LineStore :=
  { st with slots := updAt st.slots i fun _ => none, ageList := st.ageList.erase i }

/-- The renewal of a redirtied slot (R13). -/
def renew (st : LineStore) (i : SlotNo) (now : BitVec 16) : LineStore :=
  { st.onLine i (fun l =>
      { l with state := .held, allocatedAt := now, age := 0, ageRuns := false, contributors := l.drainContributors,
               drainContributors := 0, redirty := false }) with
    ageList := st.ageList.erase i ++ [i] }

/-- The return of a DRAINING slot to HELD without renewal (R15). -/
def returnHeld (st : LineStore) (i : SlotNo) : LineStore :=
  st.onLine i fun l => { l with state := .held, drainContributors := 0, redirty := false }

/-- DISCARD frees every slot of a bank (R16). -/
def discard (st : LineStore) (b : BankNo) : LineStore :=
  { st with
    slots := mapAll st.slots fun o => if slotOfBank b o then none else o
    ageList := st.ageList.filter fun i => !slotOfBank b st.slots[i] }

/-- A line at a step of the millisecond counter: its age rises by one and stops at 65,535 (R6). The first step after the
allocation or renewal may fall at any point of the first millisecond; it begins the count, so that age N is reached N to
N + 1 milliseconds after it (R197; log 10). -/
def agedLine (l : Line) : Line :=
  if l.ageRuns then { l with age := satInc l.age } else { l with ageRuns := true }

/-- Every line takes a step of the millisecond counter (R6, R196). -/
def ageAll (st : LineStore) : LineStore := { st with slots := mapAll st.slots (Option.map agedLine) }

/-- Every DRAINING slot returns to HELD (R27). -/
def returnAllHeld (st : LineStore) : LineStore :=
  { st with slots := mapAll st.slots (Option.map fun l =>
      if l.state == .draining then { l with state := .held, drainContributors := 0, redirty := false } else l) }

/-- The bytes that the store holds of a line: nothing valid when the line is absent (R4). -/
def bytesOfLine (st : LineStore) (a : LineAddr) : Vector (Option Byte) 32 :=
  match st.lookup a with
  | some i =>
    match st.slots[i] with
    | some l => l.bytes
    | none => noBytes
  | none => noBytes

end LineStore

namespace State

/-! ## Responses, replies and single-field updates -/

/-- A response leaves the S port (R30). -/
def respond (s : State) (r : Request) (code : Code) (data : List Word) : State :=
  { s with out := { s.out with responses := s.out.responses ++ [⟨r.initiator, r.tag, code, data⟩] } }

/-- The status byte and the results of a management command are fixed (R187). A new frame ends the frame
before it, so a mark that a FAULT POP left is dropped (R166; log 20). -/
def reply (s : State) (argBytes : Nat) (status : MgmtStatus) (results : List Byte) : State :=
  { s with mgmt := some ⟨argBytes, status, results, false⟩ }

/-- What a management row does: while the port waits for MCS to rise after a power-on reset its frame is not taken and
nothing happens, otherwise the command takes effect (R189; log 28). -/
def onFrame (s : State) (effect : Host.Outcome State Fault Refusal) : Host.Outcome State Fault Refusal :=
  if s.awaitRise then .next s else effect

/-- Change a bank's record. -/
def setBank (s : State) (b : BankNo) (f : BankRecord → BankRecord) : State :=
  { s with banks := updAt s.banks b f }

/-- Change a bank's set of causes. -/
def setCauses (s : State) (b : BankNo) (f : DrainCauses → DrainCauses) : State :=
  { s with causes := updAt s.causes b f }

/-- Set or clear a bank's clear-pending flag (R144, R146). -/
def setClearPending (s : State) (b : BankNo) (v : Bool) : State :=
  { s with clear := { s.clear with wanted := updAt s.clear.wanted b fun _ => v } }

/-! ## Fault Log -/

/-- A fault is handed to the Fault Log: it is added while the log has room (R156) and dropped otherwise
(R157); in either case the fault hold of its bank is set (R158). -/
def handFault (s : State) (rep : FaultReport) : State :=
  let f := s.faults
  let hold := updAt f.hold rep.bank fun _ => true
  if f.records.length < Config.logCapacity then
    { s with faults :=
        { f with records := f.records ++ [⟨f.nextSeq, s.clock.msTime, rep⟩], nextSeq := f.nextSeq + 1, hold := hold } }
  else
    { s with faults :=
        { f with overflow := satInc f.overflow, unlogged := updAt f.unlogged rep.bank fun _ => true, hold := hold } }

/-- A bank's fault hold clears when no record names the bank and its unlogged mark is clear (R159). -/
def judgeHold (s : State) (b : BankNo) : State :=
  if s.recordNames b || s.faults.unlogged[b] then s
  else { s with faults := { s.faults with hold := updAt s.faults.hold b fun _ => false } }

/-! ## Clear Engine -/

/-- A bank enters CLEARING and joins the tail of the clear queue; a bank that joins an empty queue is its
head, with the cursor at 0 and the incomplete mark clear (R144). Its clear-pending flag is cleared. -/
def enterClearing (s : State) (b : BankNo) (origin : Rest) : State :=
  let c := s.clear
  let first := c.queue.isEmpty
  { s.setBank b (fun k => { k with state := .clearing origin, settleTimer := .stopped, idleTimer := .stopped }) with
    clear := { c with
      queue := c.queue ++ [b], wanted := updAt c.wanted b fun _ => false
      cursor := if first then 0 else c.cursor, incomplete := if first then false else c.incomplete } }

/-- A bank that becomes STUCK leaves the clear queue and loses a pending clear; if it was the head, its clear
is abandoned and the next bank begins at line 0 (R146, R151). -/
def abandonClear (s : State) (b : BankNo) : State :=
  let c := { s.clear with wanted := updAt s.clear.wanted b fun _ => false }
  if c.queue.head? = some b then
    { s with clear := { c with queue := c.queue.tail, cursor := 0, incomplete := false, outstanding := false } }
  else { s with clear := { c with queue := c.queue.erase b } }

/-! ## Power transitions -/

/-- A WAKING bank takes its settle event: from RETAIN it enters ACTIVE, or CLEARING when a clear is pending
(R80); from OFF its LOST flag is set and the LOST cause latched, and it enters CLEARING when CLEAR ON WAKE
is set or a clear is pending, else ACTIVE (R81). -/
def settleWaking (s : State) (b : BankNo) (origin : Rest) : State :=
  match origin with
  | .retain =>
    if s.clear.wanted[b] then s.enterClearing b .retain
    else s.setBank b fun k => { k with state := .active, settleTimer := .stopped }
  | .off =>
    let s1 := { s.setBank b (fun k => { k with lost := true }) with irq := { s.irq with lost := true } }
    if s.regs.policy[b].clearOnWake || s.clear.wanted[b] then s1.enterClearing b .off
    else s1.setBank b fun k => { k with state := .active, settleTimer := .stopped }

/-- A bank's request level changes: its settle timer starts with SETTLE LIMIT, its idle and off timers stop
and its pending wake is clear (R74, R78, R83, R94). -/
def requestLevel (s : State) (b : BankNo) (level : Level) (state : BankState) : State :=
  s.setBank b fun k =>
    { k with state := state, request := level, settleTimer := .start s.regs.settleLimit.toNat,
             idleTimer := .stopped, offTimer := .stopped, pendingWake := false }

/-- A bank is raised toward ACTIVE and the wake is counted (R78, R93, R95). If the status lines already
report settled at ACTIVE, the settle event is taken at once (R74). -/
def wake (s : State) (b : BankNo) (origin : Rest) : State :=
  let s1 := (s.requestLevel b .active (.waking origin)).setBank b fun k => { k with wakeCount := satInc k.wakeCount }
  if s1.banks[b].atRequest then s1.settleWaking b origin else s1

/-- A DESCENDING bank takes its settle event: it enters its target, and wakes at once if pending wake is set
or a demand stands (R79). -/
def settleDescending (s : State) (b : BankNo) (target : Rest) : State :=
  let again := s.banks[b].pendingWake || s.wakeDemand b
  let s1 := s.setBank b fun k => { k with state := target.state, settleTimer := .stopped, pendingWake := false }
  if again then s1.wake b target else s1

/-- A bank is lowered toward a target (R83, R84, R92, R94). If the status lines already report settled at the
new level, the settle event is taken at once (R74). -/
def descend (s : State) (b : BankNo) (target : Rest) : State :=
  let s1 := s.requestLevel b target.level (.descending target)
  if s1.banks[b].atRequest then s1.settleDescending b target else s1

/-- A wake demand on a bank begins (R77): an OFF or RETAIN bank wakes, a DESCENDING bank sets pending wake;
an unfitted bank takes no demand (R72). -/
def demand (s : State) (b : BankNo) : State :=
  if s.fitted b then
    match s.bankState b with
    | .off => s.wake b .off
    | .retain => s.wake b .retain
    | .descending _ => s.setBank b fun k => { k with pendingWake := true }
    | .waking _ => s
    | .active => s
    | .clearing _ => s
    | .stuck _ => s
  else s

/-! ## The drain-wanted flag -/

/-- A cause joins the set of a bank that holds lines (R99); when that sets the flag, its wake demand begins
(R105). `f` adds the cause. -/
def addCause (s : State) (b : BankNo) (f : DrainCauses → DrainCauses) : State :=
  if s.lineCount b = 0 then s
  else if s.drainWanted b then s.setCauses b f
  else (s.setCauses b f).demand b

/-- What follows a freeing of lines of a bank: its set of causes is emptied when it holds no line (R104), and
RECOVER ends when the store is empty (R176). -/
def afterFreeing (s : State) (b : BankNo) : State :=
  let s1 := if s.lineCount b = 0 then s.setCauses b fun _ => DrainCauses.none else s
  if s1.mode = .recover ∧ s1.store.fill = 0 then { s1 with mode := .normal } else s1

/-- The pressure choice (R101): when pressure exists and no bank holds PRESSURE, the bank of the first entry of
the age list whose bank is not STUCK takes it. -/
def pressureChoice (s : State) : State :=
  if s.pressure && !s.hasPressureBank then
    let choice := s.store.ageList.findSome? fun i =>
      match s.store.slots[i] with
      | some l => if (s.bankState l.bank).isStuck then none else some l.bank
      | none => none
    match choice with
    | some b => s.addCause b fun c => { c with pressure := true }
    | none => s
  else s

/-! ## STUCK -/

/-- Every entry of a bank becomes FAILED, except an ISSUED one (R67). -/
def markFailed (s : State) (b : BankNo) : State :=
  { s with queue := s.queue.map fun e =>
      if e.request.bank == b && e.status != .issued then { e with status := .failed } else e }

/-- A fitted bank in any other state becomes STUCK (R86): its stuck origin is set, its request level kept, its
timers stopped, its pending wake and clear gone, its PRESSURE cause withdrawn (R102), its entries marked
FAILED (R67). An unfitted bank's record stays as it is (R192). -/
def makeStuck (s : State) (b : BankNo) : State :=
  if s.fitted b && !(s.bankState b).isStuck then
    let s1 := s.setBank b fun k =>
      { k with state := .stuck k.state.stuckOrigin, settleTimer := .stopped, idleTimer := .stopped,
               offTimer := .stopped, pendingWake := false }
    let s2 := s1.abandonClear b
    let s3 := s2.setCauses b fun c => { c with pressure := false }
    s3.markFailed b
  else s

/-- A record with the count of a bank's lines in the store: SETTLE TIMEOUT and UNSOLICITED CHANGE (R155,
Table 8-2). -/
def countedFault (s : State) (kind : FaultKind) (b : BankNo) : FaultReport :=
  ⟨kind, b, none, none, none, some (s.lineCount b)⟩

/-- A bank becomes STUCK and a record with its line count is handed to the Fault Log (R75, R76). -/
def failBank (s : State) (b : BankNo) (kind : FaultKind) : State :=
  (s.makeStuck b).handFault (s.countedFault kind b)

/-- The status lines of a bank are taken into its reported level and settled indication (R76, R96). -/
def sampleLines (s : State) (b : BankNo) : State :=
  s.setBank b fun k => { k with reported := s.pins.pstat[b], settled := s.pins.pset[b] }

/-- A bank taken to OFF by a reset or by fitting reads its status lines; one that does not report settled at
OFF has an unsolicited change (R96, R98). -/
def sampleAtRest (s : State) (b : BankNo) : State :=
  let s1 := s.sampleLines b
  if s1.banks[b].atRequest then s1 else s1.failBank b .unsolicitedChange

/-- The Warning Logic enters WARN: the WARN cause joins the set of every bank that holds lines (R103, R174). -/
def enterWarn (s : State) : State :=
  (List.finRange 8).foldl (fun s b => s.addCause b fun c => { c with warn := true }) { s with mode := .warn }

end State
end Sys2Proof.Machine
end

