-- ==== Sys2Proof/Machine/Handler.lean ====
section
/-! DEFINITION. The Request Handler (section 2): the decision of Table 2-6 and the effects of its outcomes;
and the Hold Queue (section 3): entries, the release walk, and the re-evaluation of READY entries at a
freeze. -/

namespace Sys2Proof.Machine

/-- What the Region Table gives a request: its ABSORB and SERVE attributes (R35). -/
structure Attributes where
  absorb : Bool
  serve  : Bool
  deriving DecidableEq, Repr

/-- The outcome that an evaluation gives a request (R39, Table 2-6). -/
inductive Verdict where
  /-- REFUSED with a code. -/
  | refused (code : Code)
  /-- A zero-enable write, answered OK with no effect (R33). -/
  | noEffect
  /-- SERVED from a slot (R18). -/
  | served (i : SlotNo)
  /-- ABSORBED by merge into a slot (R8, R9). -/
  | merged (i : SlotNo)
  /-- ABSORBED by allocation of a slot (R7). -/
  | allocated (i : SlotNo)
  /-- FORWARDED (R44, R46). -/
  | forwarded
  /-- HELD with a reason, BANK or FROZEN. -/
  | held (reason : WaitReason)
  deriving DecidableEq, Repr

/-- The status an outcome gives an entry: none for one that answers the request (R39). -/
def Verdict.entryStatus (v : Verdict) : Option EntryStatus :=
  match v with
  | .refused _ => none
  | .noEffect => none
  | .served _ => none
  | .merged _ => none
  | .allocated _ => none
  | .forwarded => some .ready
  | .held reason => some (.waiting reason)

/-- Whether a region entry matches a line and an initiator (R35). -/
def Region.applies (g : Region) (a : LineAddr) (i : Initiator) : Bool :=
  g.valid && g.base.toNat ≤ a.toNat && a.toNat ≤ g.limit.toNat && g.initiators.getLsbD i.val

namespace State

/-- The attributes of a request: those of the lowest-numbered entry that matches, else both clear (R35). -/
def attributes (s : State) (r : Request) : Attributes :=
  match s.regions.toList.find? fun g => g.applies r.line r.initiator with
  | some g => ⟨g.absorb, g.serve⟩
  | none => ⟨false, false⟩

/-- A decode fault: misaligned, across a line boundary, or to an unfitted bank (R32). -/
def decodeFault (s : State) (r : Request) : Bool :=
  r.address.toNat % 4 != 0 || 8 < r.offset + r.count || !s.fitted r.bank

/-- The slot that covers a read in full, if one does (R17). -/
def coveringSlot (s : State) (r : Request) : Option SlotNo :=
  match s.store.lookup r.line with
  | some i => if covers (s.store.bytesOfLine r.line) r then some i else none
  | none => none

/-- The slot that check 2 serves a READ from (R40): the store covers it in full, and its bank is ACTIVE,
frozen or STUCK, or asleep with SERVE. -/
def servingSlot (s : State) (r : Request) : Option SlotNo :=
  let st := s.bankState r.bank
  if !r.isWrite && (st == .active || s.frozen r.bank || st.isStuck || (st.isAsleep && (s.attributes r).serve)) then
    s.coveringSlot r
  else none

/-- The slot that check 7 allocates for a WRITE, when its five conditions hold (R45). -/
def allocatingSlot (s : State) (r : Request) : Option SlotNo :=
  if (s.attributes r).absorb && s.mode == .normal && (s.bankState r.bank).mayAllocate && !s.wordWriteInFlight r.line then
    s.store.lowestFree
  else none

/-- Checks 5, 6 and 7 for a WRITE with an enabled byte to a bank that is neither frozen nor STUCK (R43, R44,
R45). -/
def judgeWrite (s : State) (r : Request) : Verdict :=
  match s.store.lookup r.line with
  | some i => .merged i
  | none =>
    if s.bankState r.bank = .active then .forwarded
    else
      match s.allocatingSlot r with
      | some i => .allocated i
      | none => .held .bank

/-- Checks 8 and 9 for a READ that check 2 did not serve (R46, R47). -/
def judgeRead (s : State) (r : Request) : Verdict :=
  if s.bankState r.bank = .active then
    if s.banks[r.bank].lost && s.regs.policy[r.bank].lostCheck then .refused .eLost else .forwarded
  else .held .bank

/-- The decision of the Request Handler, its checks in their order (R39, Table 2-6). -/
def judge (s : State) (r : Request) : Verdict :=
  if s.decodeFault r then .refused .eDecode
  else if r.isZeroEnable then .noEffect
  else
    match s.servingSlot r with
    | some i => .served i
    | none =>
      if s.frozen r.bank then .held .frozen
      else if (s.bankState r.bank).isStuck then .refused .eBank
      else if r.isWrite then s.judgeWrite r
      else s.judgeRead r

/-- The bytes valid in a slot. -/
def slotBytes (s : State) (i : SlotNo) : Vector (Option Byte) 32 :=
  match s.store.slots[i] with
  | some l => l.bytes
  | none => noBytes

/-- The effect of an outcome at the event of its evaluation (R39): the store's change and the response of an
outcome that answers, the wake demand of HELD(BANK) (R48). An allocation withdraws a pending clear (R146). -/
def perform (s : State) (r : Request) (v : Verdict) : State :=
  match v with
  | .refused code => s.respond r code []
  | .noEffect => s.respond r .ok []
  | .served i =>
    { s with store := { s.store with servedReads := s.store.servedReads + 1 } }.respond r .ok
      (servedWords (s.slotBytes i) r)
  | .merged i => { s with store := s.store.merge i r }.respond r .ok []
  | .allocated i =>
    ({ s with store := s.store.allocate i r s.clock.msTime }.setClearPending r.bank false).respond r .ok []
  | .forwarded => s
  | .held reason =>
    match reason with
    | .bank => s.demand r.bank
    | .frozen => s
    | .order => s

/-- Append an entry at the tail of the Hold Queue (R53). -/
def appendEntry (s : State) (r : Request) (status : EntryStatus) : State :=
  { s with queue := s.queue ++ [⟨r, status⟩] }

/-- An entry leaves the Hold Queue; the others keep their order (R53). -/
def removeEntry (s : State) (k : Nat) : State := { s with queue := s.queue.eraseIdx k }

/-- An entry takes a new status and keeps its place (R39). -/
def setStatus (s : State) (k : Nat) (status : EntryStatus) : State :=
  { s with queue := s.queue.modify k fun e => { e with status := status } }

/-- The S port takes a request that has no entry before it: the first evaluation (R39, R56). -/
def firstEvaluation (s : State) (r : Request) : State :=
  let v := s.judge r
  match v.entryStatus with
  | some status => (s.appendEntry r status).perform r v
  | none => s.perform r v

/-- The re-evaluation of the entry at place `k` (R62). -/
def reevaluate (s : State) (k : Nat) (e : Entry) : State :=
  let v := s.judge e.request
  match v.entryStatus with
  | some status => (s.setStatus k status).perform e.request v
  | none => (s.removeEntry k).perform e.request v

/-- An entry is answered with a code and leaves the queue (R66, R69). -/
def answerEntry (s : State) (k : Nat) (e : Entry) (code : Code) (data : List Word) : State :=
  (s.removeEntry k).respond e.request code data

end State

/-- What a sweep of the queue does with the entry it has reached. -/
inductive Visit where
  | pass
  | evaluate
  | fail
  deriving DecidableEq, Repr

/-- Sweep the queue once from place `k` on, oldest first: `rule` decides what is done with each entry as it is
reached; each effect lands before the sweep moves on (R61). `fuel` bounds the number of visits. -/
def sweep (rule : State → Nat → Entry → Visit) : Nat → Nat → State → State
  | 0, _, s => s
  | fuel + 1, k, s =>
    match s.queue[k]? with
    | none => s
    | some e =>
      match rule s k e with
      | .pass => sweep rule fuel (k + 1) s
      | .fail => sweep rule fuel k (s.answerEntry k e .eBank [])
      | .evaluate =>
        match (s.judge e.request).entryStatus with
        | some _ => sweep rule fuel (k + 1) (s.reevaluate k e)
        | none => sweep rule fuel k (s.reevaluate k e)

namespace State

/-- Whether the entry at place `k` is at head: no entry of its initiator stands before it (R54). -/
def atHead (s : State) (k : Nat) (e : Entry) : Bool :=
  (s.queue.take k).all fun e' => e'.request.initiator != e.request.initiator

/-- What a release walk does with an entry (R61). -/
def walkRule (s : State) (k : Nat) (e : Entry) : Visit :=
  if s.atHead k e then
    match e.status with
    | .waiting _ => .evaluate
    | .failed => .fail
    | .ready => .pass
    | .issued => .pass
  else .pass

/-- One release walk (R61). -/
def releaseWalk (s : State) : State := sweep walkRule s.queue.length 0 s

/-- Whether a bank entered ACTIVE between two states (R60). -/
def enteredActive (pre s : State) : Bool :=
  (List.finRange 8).any fun b => pre.bankState b != .active && s.bankState b == .active

/-- The release walks of an event: one, and another for a bank that entered ACTIVE during it, which needs status
lines that already report settled at ACTIVE (R60, R74; log 15). -/
def releaseWalks : Nat → State → State
  | 0, s => s
  | n + 1, s =>
    let s' := s.releaseWalk
    if enteredActive s s' then releaseWalks n s' else s'

/-- Whether a bank became frozen between two states (R160). -/
def becameFrozen (pre s : State) (b : BankNo) : Bool := !pre.frozen b && s.frozen b

/-- What the re-evaluation at a freeze does with an entry (R49); `s` is the state that the event's own effect left. -/
def freezeRule (pre s : State) (_ : State) (_ : Nat) (e : Entry) : Visit :=
  if e.status == .ready && becameFrozen pre s e.request.bank then .evaluate else .pass

/-- The re-evaluation of the READY entries of the banks that became frozen since `pre` (R49). DESIGN CHOICE: the oldest
first, where R49 gives no order; unsafe in the order of responses to different initiators: log 31. -/
def freezeReevaluation (pre s : State) : State := sweep (freezeRule pre s) s.queue.length 0 s

end State
end Sys2Proof.Machine
end

