-- ==== Sys2Proof/Machine/Arbiter.lean ====
section
/-! DEFINITION. The Arbiter (section 6): the drain offer and its class (section 5, R108), the clear offer (R147),
and the grant (R123, R134 to R136). -/

namespace Sys2Proof.Machine

/-- The class of a drain offer (R108, Table 5-2). -/
inductive DrainClass where
  | urgent
  | drainWanted
  | drain
  deriving DecidableEq, Repr

/-- What the Arbiter grants the M port to (Table 6-3). -/
inductive Grant where
  /-- The entry at a place of the Hold Queue. -/
  | entry (k : Nat)
  /-- The drain of a slot, with the class of its offer. -/
  | drain (i : SlotNo) (cls : DrainClass)
  /-- The zero-line write of the clear queue's head. -/
  | zeroLine (b : BankNo)
  deriving DecidableEq, Repr

namespace State

/-- Whether a slot holds a HELD line of an ACTIVE bank: the first such slot of a bank in the age list is its
drain candidate (R107). `flagged` asks for a bank with its drain-wanted flag set. -/
def isCandidate (s : State) (flagged : Bool) (i : SlotNo) : Bool :=
  match s.store.slots[i] with
  | some l => l.state == .held && s.bankState l.bank == .active && (!flagged || s.drainWanted l.bank)
  | none => false

/-- The drain offer with its class (R108); the first candidate in the age list. -/
def drainOffer (s : State) : Option (SlotNo × DrainClass) :=
  let first := s.store.ageList.find? (s.isCandidate false)
  match s.mode with
  | .warn => first.map fun i => (i, .urgent)
  | .recover => first.map fun i => (i, .urgent)
  | .normal =>
    match s.store.ageList.find? (s.isCandidate true) with
    | some i => some (i, .drainWanted)
    | none => first.map fun i => (i, .drain)

/-- The place of the oldest READY entry whose bank is ACTIVE (R65, R124). -/
def readyEntry (s : State) : Option Nat :=
  s.queue.findIdx? fun e => e.status == .ready && s.bankState e.request.bank == .active

/-- The bank whose zero-line write is presented: the head of the clear queue, while no zero-line write is
outstanding and the bank is CLEARING (R147, R124). -/
def zeroLineOffer (s : State) : Option BankNo :=
  if s.clear.outstanding then none else s.clear.queue.head?.filter fun b => (s.bankState b).isClearing

/-- The Arbiter's choice by the grant order (R135, Table 6-3) and the alternation flag (R136). -/
def choice (s : State) : Option Grant :=
  match s.drainOffer, s.readyEntry with
  | some (i, .urgent), _ => some (.drain i .urgent)
  | some (i, .drainWanted), some k =>
    match s.port.turn with
    | .entry => some (.entry k)
    | .drain => some (.drain i .drainWanted)
  | some (i, .drainWanted), none => some (.drain i .drainWanted)
  | some (_, .drain), some k => some (.entry k)
  | none, some k => some (.entry k)
  | some (i, .drain), none => some (.drain i .drain)
  | none, none => s.zeroLineOffer.map .zeroLine

/-- The events common to every grant (R123): the operation number rises, the in-flight record is filled and the
access timer starts with ACCESS LIMIT. -/
def issue (s : State) (kind : OpKind) (bank : BankNo) (address : ByteAddr) (count : Nat) (presenter : Presenter)
    (op : MemOp) : State :=
  let number := s.port.opNumber + 1
  { s with
    port := { s.port with
      opNumber := number
      inFlight := some ⟨kind, number, bank, address, count, presenter, .start s.regs.accessLimit.toNat⟩ }
    out := { s.out with issued := s.out.issued ++ [⟨number, op⟩] } }

/-- Set the alternation flag (R136). -/
def setTurn (s : State) (t : Turn) : State := { s with port := { s.port with turn := t } }

/-- The grant of the M port to a READY entry (R65, R136). -/
def grantEntry (s : State) (k : Nat) : State :=
  match s.queue[k]? with
  | none => s
  | some e =>
    let r := e.request
    let s1 := (s.setStatus k .issued).setTurn .drain
    match r.access with
    | .read count => s1.issue .wordRead r.bank r.address count .entry (.wordRead r.address count)
    | .write words => s1.issue .wordWrite r.bank r.address words.length .entry (.wordWrite r.address words)

/-- The grant of the M port to a drain (R110, R11, R136). -/
def grantDrain (s : State) (i : SlotNo) (cls : DrainClass) : State :=
  match s.store.slots[i] with
  | none => s
  | some l =>
    let s1 := { s with store := s.store.startDrain i }
    let s2 := match cls with
      | .drainWanted => s1.setTurn .entry
      | .urgent => s1
      | .drain => s1
    s2.issue .lineWrite l.bank (firstByte l.addr) 8 (.slot i) (.lineWrite (firstByte l.addr) l.bytes)

/-- The grant of the M port to the zero-line write of the cursor's line (R147). -/
def grantZeroLine (s : State) (b : BankNo) : State :=
  let a := firstByte (lineInBank b s.clear.cursor.toNat)
  { s with clear := { s.clear with outstanding := true } }.issue .zeroLine b a 8 .clearEngine (.zeroLine a)

/-- The grant at the end of an event (R134): only while the port is FREE and RESETn is negated. -/
def grant (s : State) : State :=
  if s.pins.resetn || s.port.inFlight.isSome then s
  else
    match s.choice with
    | some (.entry k) => s.grantEntry k
    | some (.drain i cls) => s.grantDrain i cls
    | some (.zeroLine b) => s.grantZeroLine b
    | none => s

end State
end Sys2Proof.Machine
end

