-- ==== Sys2Proof/Machine/Event.lean ====
section
/-! DEFINITION. What follows the effect of an event, in one place: the re-evaluation of READY entries of banks that
became frozen, the release walk, age-expiry events, the pressure choice, the grant, the idle and off timers and the
SAFE latch (log 14). -/

namespace Sys2Proof.Machine.State

/-- Whether some slot became FREE between two states (R20). -/
def slotFreed (pre s : State) : Bool :=
  (List.finRange 32).any fun i => pre.store.slots[i].isSome && s.store.slots[i].isNone

/-- Whether a bank became STUCK between two states (R86). -/
def becameStuck (pre s : State) : Bool :=
  (List.finRange 8).any fun b => !(pre.bankState b).isStuck && (s.bankState b).isStuck

/-- Whether a fault hold cleared between two states (R159). -/
def holdCleared (pre s : State) : Bool :=
  (List.finRange 8).any fun b => pre.faults.hold[b] && !s.faults.hold[b]

/-- Whether the change from `pre` to `s` is a release event by R60: a bank entered ACTIVE, a fault hold cleared, FLTPASS
changed, a slot became FREE, or a bank became STUCK. (Answers, REGION WRITE and the access limit of an entry are
said by the event itself.) -/
def isRelease (pre s : State) : Bool :=
  enteredActive pre s || holdCleared pre s || pre.pins.fltpass != s.pins.fltpass || slotFreed pre s || becameStuck pre s

/-- The age-expiry events of an event: each bank whose indication became true takes the AGE cause (R22, R100). -/
def takeAgeExpiries (pre s : State) : State :=
  (List.finRange 8).foldl
    (fun t b => if !pre.ageExpired b && s.ageExpired b then t.addCause b fun c => { c with age := true } else t) s

/-- A timer follows its conditions: it starts when they come to hold, keeps its limit and count while they hold,
and stops when one ceases (R82, R84, R85). -/
def followTimer (holds : Bool) (delay : Nat) (t : Timer) : Timer :=
  if holds then (if t.isRunning then t else .start delay) else .stopped

/-- The idle and off timers of a bank follow their conditions (R82, R84). -/
def refreshTimersOf (s : State) (b : BankNo) : State :=
  s.setBank b fun k =>
    { k with
      idleTimer := followTimer (s.idleConditions b) s.regs.policy[b].retainDelay.toNat k.idleTimer
      offTimer := followTimer (s.offConditions b) s.regs.policy[b].offDelay.toNat k.offTimer }

/-- The idle and off timers of every bank follow their conditions. -/
def refreshTimers (s : State) : State := (List.finRange 8).foldl refreshTimersOf s

/-- The SAFE cause is latched when SAFE changes from negated to asserted (R181, R168). -/
def latchSafe (pre s : State) : State :=
  if !pre.safe && s.safe then { s with irq := { s.irq with safe := true } } else s

/-- The re-evaluations and walks of an event: the READY entries of newly frozen banks first (R49), then the release
walk, if the event or an answer just made is a release event (R60). -/
def runQueue (pre : State) (released : Bool) (s : State) : State :=
  let s1 := freezeReevaluation pre s
  if released || isRelease pre s || s1.queue.length != s.queue.length then releaseWalks 9 s1 else s1

/-- What follows the effect of an event before the grant. `pre` is the state before the event, `s` the state its own effect
left; `released` says that the event itself is a release event. -/
def untilGrant (s pre : State) (released : Bool) : State := (takeAgeExpiries pre (runQueue pre released s)).pressureChoice

/-- What follows the grant of an event. -/
def afterGrant (s pre : State) : State := latchSafe pre s.refreshTimers

/-- What follows the effect of an event. -/
def finish (s pre : State) (released : Bool) : State := (s.untilGrant pre released).grant.afterGrant pre

/-- Whether the assertion of RESETn falls together with this event and is taken second: it is the next command that waits
(R202; log 29). -/
def resetFollows (s : State) : Bool := !s.pins.resetn && s.pending.head? == some .resetnAssertion

/-- What follows a completion. Where the assertion of RESETn falls together with it no grant is made, so that the assertion
finds the port FREE and abandons nothing (R202; log 29). -/
def finishCompletion (s pre : State) (released : Bool) : State :=
  if s.resetFollows then (s.untilGrant pre released).afterGrant pre else s.finish pre released

end Sys2Proof.Machine.State
end

