-- ==== Sys2Proof/Machine/BankEvents.lean ====
section
/-! DEFINITION. What reaches a bank record from outside and from its timers: SETTLE_TIMEOUT (R75), STATUS_LINE_CHANGE
(R74, R76), IDLE_TIMER_EXPIRY (R83), OFF_TIMER_EXPIRY (R84), and the age-expiry event of its lines, AGE_EXPIRY (R22,
R100). An expiry of a timer that does not run has no effect (R197; log 8). -/

namespace Sys2Proof.Machine

namespace State

/-- The levels on a bank's status lines, as driven from outside. -/
def drive (s : State) (b : BankNo) (level : StatusLevel) (settled : Bool) : State :=
  { s with pins := { s.pins with
      pstat := updAt s.pins.pstat b fun _ => level
      pset := updAt s.pins.pset b fun _ => settled } }

/-- Whether the status lines now driven are an unsolicited change of a settled bank: a change of the reported level, or
a negation of the settled indication (R76). -/
def unsolicited (s : State) (b : BankNo) : Bool :=
  s.pins.pstat[b] != s.banks[b].reported || (s.banks[b].settled && !s.pins.pset[b])

/-- A change of a settled bank's status lines: unsolicited, or taken into the record (R76). -/
def settledChange (s pre : State) (b : BankNo) : State :=
  if s.unsolicited b then ((s.sampleLines b).failBank b .unsolicitedChange).finish pre false else s.sampleLines b

/-- A change of the status lines of a fitted bank, by the bank's state (R74, R76, R88). -/
def lineChange (s pre : State) (b : BankNo) : State :=
  let s1 := s.sampleLines b
  match s.bankState b with
  | .waking origin => if s1.banks[b].atRequest then (s1.settleWaking b origin).finish pre false else s1
  | .descending target => if s1.banks[b].atRequest then (s1.settleDescending b target).finish pre false else s1
  | .stuck _ => s1
  | .off => s.settledChange pre b
  | .retain => s.settledChange pre b
  | .active => s.settledChange pre b
  | .clearing _ => s.settledChange pre b

end State

/-- SETTLE_TIMEOUT (R75): the bank becomes STUCK with a SETTLE TIMEOUT record. -/
def execSettleTimeout (b : BankNo) (s : State) : Host.Outcome State Fault Refusal :=
  if (s.bankState b).inTransition && s.banks[b].settleTimer.isRunning then
    .next ((s.failBank b .settleTimeout).finish s false)
  else .next s

/-- STATUS_LINE_CHANGE (R74, R76). The lines of an unfitted bank are not watched (R72). -/
def execStatusLineChange (b : BankNo) (level : StatusLevel) (settled : Bool) (s : State) :
    Host.Outcome State Fault Refusal :=
  if s.fitted b then .next ((s.drive b level settled).lineChange s b) else .next (s.drive b level settled)

/-- IDLE_TIMER_EXPIRY (R82, R83): an ACTIVE bank descends toward RETAIN. -/
def execIdleTimerExpiry (b : BankNo) (s : State) : Host.Outcome State Fault Refusal :=
  if s.bankState b = .active ∧ s.banks[b].idleTimer.isRunning then .next ((s.descend b .retain).finish s false)
  else .next s

/-- OFF_TIMER_EXPIRY (R84): a RETAIN bank descends toward OFF. -/
def execOffTimerExpiry (b : BankNo) (s : State) : Host.Outcome State Fault Refusal :=
  if s.bankState b = .retain ∧ s.banks[b].offTimer.isRunning then .next ((s.descend b .off).finish s false)
  else .next s

/-- AGE_EXPIRY (R22, R100): the AGE cause joins the set of a bank whose age-expired indication is true. -/
def execAgeExpiry (b : BankNo) (s : State) : Host.Outcome State Fault Refusal :=
  if s.ageExpired b then .next ((s.addCause b fun c => { c with age := true }).finish s false) else .next s

end Sys2Proof.Machine
end

