-- ==== Sys2Proof/Machine/Drains.lean ====
section
/-! DEFINITION. FLUSH (R117) and FLUSH ALL (R118). -/

namespace Sys2Proof.Machine

namespace State

/-- The FLUSH cause joins the set of a bank that holds lines (R117). -/
def flushBank (s : State) (b : BankNo) : State := s.addCause b fun c => { c with flush := true }

/-- FLUSH for a bank number below 8 (R117). A bank without lines is left as it is. -/
def orderFlush (s : State) (b : BankNo) : State :=
  if !s.fitted b || (s.bankState b).isStuck then s.reply 1 .refused []
  else if s.lineCount b = 0 then s.reply 1 .done []
  else ((s.flushBank b).finish s false).reply 1 .done []

/-- FLUSH ALL reaches every fitted bank that holds lines and is not STUCK (R118; ascending banks, log 16). -/
def flushEvery (s : State) : State :=
  (List.finRange 8).foldl (fun t b => if s.fitted b && !(s.bankState b).isStuck then t.flushBank b else t) s

end State

/-- FLUSH (R117). -/
def execFlush (bank : Byte) (s : State) : Host.Outcome State Fault Refusal :=
  s.onFrame <|
    match eighth bank.toNat with
    | none => .next (s.reply 1 .badarg [])
    | some b => .next (s.orderFlush b)

/-- FLUSH_ALL (R118). -/
def execFlushAll (s : State) : Host.Outcome State Fault Refusal :=
  s.onFrame (.next ((s.flushEvery.finish s false).reply 0 .done []))

end Sys2Proof.Machine
end

