-- ==== Sys2Proof/Machine/FaultCommands.lean ====
section
/-! DEFINITION. Reading and clearing the Fault Log: FAULT PEEK (R164), FAULT POP and its removal (R165, R166), CLEAR
UNLOGGED (R167), with the record layout of Table 10-6. -/

namespace Sys2Proof.Machine

/-- The code of a fault kind (Table 10-6). -/
def FaultKind.code (k : FaultKind) : Nat :=
  match k with
  | .drainWriteError => 1
  | .clearWriteError => 2
  | .settleTimeout => 3
  | .accessTimeout => 4
  | .unsolicitedChange => 5
  | .linesDiscarded => 6

/-- The 16 result bytes of a record (Table 10-6); an absent field reads as zero (R154). -/
def FaultRecord.bytes (r : FaultRecord) : List Byte :=
  let f := r.report
  let mask := match f.mask with
    | some m => flagsValue m.toList
    | none => 0
  let line := match f.line with
    | some a => a.toNat
    | none => 0
  bytesOf 2 r.seq.toNat ++ bytesOf 1 f.kind.code ++ bytesOf 1 f.bank.val ++ bytesOf 2 r.timestamp.toNat ++
    bytesOf 1 (flagsValue [f.line.isSome, f.mask.isSome, f.contributors.isSome, f.count.isSome]) ++
    bytesOf 3 line ++ bytesOf 4 mask ++ [f.contributors.getD 0] ++ bytesOf 1 (f.count.getD 0)

namespace State

/-- The head record leaves the log (R165). Its bank's fault hold may clear (R159). -/
def removeHead (s : State) : State :=
  match s.faults.records with
  | [] => s
  | r :: rest => { s with faults := { s.faults with records := rest } }.judgeHold r.report.bank

/-- CLEAR UNLOGGED for a bank number below 8, in the order of R167: the mark, the overflow count, the hold. -/
def clearUnlogged (s : State) (b : BankNo) : State :=
  let marks := updAt s.faults.unlogged b fun _ => false
  let overflow := if marks.toList.any id then s.faults.overflow else 0
  { s with faults := { s.faults with unlogged := marks, overflow := overflow } }.judgeHold b

/-- MCS rises: the frame on the management port has ended (R187), and so has the wait for the rise (R189). -/
def endFrame (s : State) : State :=
  { s with mgmt := none, awaitRise := false, pins := { s.pins with mcsLow := false } }

end State

/-- FAULT_PEEK (R164). -/
def execFaultPeek (s : State) : Host.Outcome State Fault Refusal :=
  s.onFrame <|
    match s.faults.records with
    | [] => .next (s.reply 0 .empty [])
    | r :: _ => .next (s.reply 0 .done r.bytes)

/-- FAULT_POP (R165): the head record is returned and marked for removal at the end of the frame. -/
def execFaultPop (s : State) : Host.Outcome State Fault Refusal :=
  s.onFrame <|
    match s.faults.records with
    | [] => .next (s.reply 0 .empty [])
    | r :: _ => .next { s with mgmt := some ⟨0, .done, r.bytes, true⟩ }

/-- FAULT_POP_REMOVAL (R165, R166): MCS rises after `shifted` result bytes. The marked record is removed only when every
result byte has been shifted out. The frame ends in either case, and with it the wait of R189. -/
def execFaultPopRemoval (shifted : Nat) (s : State) : Host.Outcome State Fault Refusal :=
  match s.mgmt with
  | none => .next s.endFrame
  | some f =>
    if f.popMarked && Config.recordBytes ≤ shifted then .next (s.endFrame.removeHead.finish s false)
    else .next s.endFrame

/-- CLEAR_UNLOGGED (R167). -/
def execClearUnlogged (bank : Byte) (s : State) : Host.Outcome State Fault Refusal :=
  s.onFrame <|
    match eighth bank.toNat with
    | none => .next (s.reply 1 .badarg [])
    | some b => .next (((s.clearUnlogged b).finish s false).reply 1 .done [])

end Sys2Proof.Machine
end

