-- ==== Sys2Proof/Machine/Lines.lean ====
section
/-! DEFINITION. The level inputs: SUPWARN (R174, R175), FLTPASS (R160), RESETn (R27, R71, R97, R120, R139, R153,
R199), and POWER_ON_RESET (R26, R96, R184). Each change of a level is an event; an event to the level that already
stands is no change and has no effect (log 7). -/

namespace Sys2Proof.Machine

namespace State

/-- Drive the SUPWARN line. -/
def driveSupwarn (s : State) (v : Bool) : State := { s with pins := { s.pins with supwarn := v } }

/-- Drive the FLTPASS line. -/
def driveFltpass (s : State) (v : Bool) : State := { s with pins := { s.pins with fltpass := v } }

/-- Drive the RESETn line; true is asserted. -/
def driveResetn (s : State) (v : Bool) : State := { s with pins := { s.pins with resetn := v } }

/-- The Warning Logic leaves WARN (R175). -/
def leaveWarn (s : State) : State :=
  if s.mode = .warn then { s with mode := if s.store.fill = 0 then .normal else .recover } else s

/-- A bank record at the assertion of RESETn (R97): a CLEARING bank enters ACTIVE, and the settle timer of a
transition starts afresh. -/
def warmRecord (settleLimit : Nat) (k : BankRecord) : BankRecord :=
  match k.state with
  | .clearing _ => { k with state := .active }
  | .waking _ => { k with settleTimer := .start settleLimit }
  | .descending _ => { k with settleTimer := .start settleLimit }
  | .off => k
  | .retain => k
  | .active => k
  | .stuck _ => k

/-- A warm reset: the Hold Queue is emptied (R71), the operation in flight abandoned (R139), a DRAINING slot returns to
HELD (R27), the clears are abandoned (R153), the banks follow R97, and the RESET RECORD takes the count and the fill
level (R199). -/
def warmReset (s : State) : State :=
  { s with
    queue := []
    port := { s.port with inFlight := none, turn := .entry }
    store := s.store.returnAllHeld
    clear := ClearEngine.reset
    banks := mapAll s.banks fun k => warmRecord s.regs.settleLimit.toNat k
    regs := { s.regs with resetCount := satInc s.regs.resetCount, linesAtReset := BitVec.ofNat 8 s.store.fill } }

/-- The part after power-on reset, before it samples its inputs: the input lines, what has left the part and the
commands that wait are outside the reset (log 3). A frame in progress is discarded with MCS low, and the management port
then waits for the rise of MCS (R189; log 28). -/
def powerOn (s : State) : State :=
  { State.reset with
    awaitRise := s.frameBegun, pins := { s.pins with mcsLow := s.frameBegun }, out := s.out, pending := s.pending }

/-- The end of power-on reset: every bank's status lines are sampled (R96; ascending banks, log 16), and SUPWARN is
sampled (R184). -/
def sampleInputs (s : State) : State :=
  let s1 := (List.finRange 8).foldl sampleAtRest s
  if s1.pins.supwarn then s1.enterWarn else s1

end State

/-- SUPWARN_ASSERTION (R174). -/
def execSupwarnAssertion (s : State) : Host.Outcome State Fault Refusal :=
  if s.pins.supwarn then .next s else .next ((s.driveSupwarn true).enterWarn.finish s false)

/-- SUPWARN_NEGATION (R175). -/
def execSupwarnNegation (s : State) : Host.Outcome State Fault Refusal :=
  if s.pins.supwarn then .next ((s.driveSupwarn false).leaveWarn.finish s false) else .next s

/-- FLTPASS_ASSERTION (R160): every bank stops being frozen; a release event. -/
def execFltpassAssertion (s : State) : Host.Outcome State Fault Refusal :=
  if s.pins.fltpass then .next s else .next ((s.driveFltpass true).finish s true)

/-- FLTPASS_NEGATION (R160): every bank under a fault hold becomes frozen; a release event, whose walk re-evaluates the
WAITING entries at head and holds those of a frozen bank FROZEN (R60, R160). R50 says of a request to such a bank that is not
READY that the negation leaves it as it is. DESIGN CHOICE between the two: R60 and R160 are followed; unsafe: log 30. -/
def execFltpassNegation (s : State) : Host.Outcome State Fault Refusal :=
  if s.pins.fltpass then .next ((s.driveFltpass false).finish s true) else .next s

/-- RESETN_ASSERTION (R71). -/
def execResetnAssertion (s : State) : Host.Outcome State Fault Refusal :=
  if s.pins.resetn then .next s else .next ((s.driveResetn true).warmReset.finish s false)

/-- RESETN_NEGATION (R97, R134): the grant and the idle and off timers resume. -/
def execResetnNegation (s : State) : Host.Outcome State Fault Refusal :=
  if s.pins.resetn then .next ((s.driveResetn false).finish s false) else .next s

/-- POWER_ON_RESET (R26, R96, R184, R189). -/
def execPowerOnReset (s : State) : Host.Outcome State Fault Refusal :=
  .next (s.powerOn.sampleInputs.finish s.powerOn false)

end Sys2Proof.Machine
end

