-- ==== Sys2Proof/Machine/MPort.lean ====
section
/-! DEFINITION. The ends of an operation on the M port: COMPLETION (R125 to R129, R133) and ACCESS_TIMEOUT (R131,
R132). -/

namespace Sys2Proof.Machine

/-- An operation that a Hold Queue entry presents (Table 6-2). -/
def OpKind.isWord (k : OpKind) : Bool :=
  match k with
  | .wordRead => true
  | .wordWrite => true
  | .lineWrite => false
  | .zeroLine => false

namespace State

/-- The port becomes FREE. The idle timer of the operation's bank stops, so that it starts afresh if its conditions
then hold (R126, R82). -/
def endOperation (s : State) (b : BankNo) : State :=
  { s with port := { s.port with inFlight := none } }.setBank b fun k => { k with idleTimer := .stopped }

/-- A completion of a word operation answers the ISSUED entry (R66, R127, R128; log 24). -/
def routeWord (s : State) (report : Report) (data : Vector Word 8) : State :=
  match s.queue.findIdx? fun e => e.status == .issued with
  | none => s
  | some k =>
    match s.queue[k]? with
    | none => s
    | some e =>
      match report with
      | .error => s.answerEntry k e .eMemory []
      | .ok =>
        s.answerEntry k e .ok
          (if e.request.isWrite then [] else overlaidWords (s.store.bytesOfLine e.request.line) e.request data)

/-- A drain write answered OK whose slot is not redirty frees it (R12, R112). -/
def drained (s : State) (i : SlotNo) (l : Line) : State :=
  { s with store := { s.store.free i with drainedLines := s.store.drainedLines + 1 } }.afterFreeing l.bank

/-- A drain write answered OK whose slot is redirty renews it (R13, R113). -/
def renewed (s : State) (i : SlotNo) : State := { s with store := s.store.renew i s.clock.msTime }

/-- A drain write answered ERROR hands over a record of the whole line and frees the slot (R14, R114). -/
def drainFailed (s : State) (i : SlotNo) (l : Line) : State :=
  let s1 := s.handFault ⟨.drainWriteError, l.bank, some l.addr, some (maskOf l.bytes), some l.contributors, none⟩
  { s1 with store := s1.store.free i }.afterFreeing l.bank

/-- A completion of a LINE WRITE: it acts on its slot only while the slot is DRAINING (R129, R116). -/
def routeLine (s : State) (i : SlotNo) (report : Report) : State :=
  match s.store.slots[i] with
  | none => s
  | some l =>
    match l.state, report, l.redirty with
    | .held, _, _ => s
    | .draining, .ok, false => s.drained i l
    | .draining, .ok, true => s.renewed i
    | .draining, .error, _ => s.drainFailed i l

/-- The clear of the head bank ends (R150): LOST clears if the clear was complete, the bank enters ACTIVE, CLEAR DONE
is latched, and the next bank, if any, begins at line 0. -/
def endClear (s : State) (b : BankNo) : State :=
  { s.setBank b (fun k => { k with state := .active, lost := s.clear.incomplete && k.lost }) with
    clear := { s.clear with queue := s.clear.queue.tail, cursor := 0, incomplete := false }
    irq := { s.irq with clearDone := true } }

/-- The cursor of the head bank's clear advances, or the clear ends at the bank's last line (R148). -/
def advanceClear (s : State) (b : BankNo) : State :=
  if s.clear.cursor.toNat < Config.bankLines - 1 then
    { s with clear := { s.clear with cursor := s.clear.cursor + 1 } }
  else s.endClear b

/-- A zero-line write answered ERROR leaves a record and the incomplete mark (R149). -/
def clearFailed (s : State) (b : BankNo) : State :=
  let s1 := s.handFault ⟨.clearWriteError, b, some (lineInBank b s.clear.cursor.toNat), none, none, none⟩
  { s1 with clear := { s1.clear with incomplete := true } }

/-- A completion of a ZERO LINE: it advances the clear only while a zero-line write of the present clear is
outstanding (R148, R149). -/
def routeZero (s : State) (report : Report) : State :=
  if s.clear.outstanding then
    match s.clear.queue.head? with
    | none => s
    | some b =>
      let s1 := match report with
        | .ok => s
        | .error => s.clearFailed b
      { s1 with clear := { s1.clear with outstanding := false } }.advanceClear b
  else s

/-- The completion of the operation in flight is routed to its presenter (R126). -/
def route (s : State) (op : InFlight) (report : Report) (data : Vector Word 8) : State :=
  match op.presenter with
  | .entry => s.routeWord report data
  | .slot i => s.routeLine i report
  | .clearEngine => s.routeZero report

/-- A late completion (R133). -/
def lateCompletion (s : State) : State := { s with port := { s.port with lateCount := satInc s.port.lateCount } }

/-- The presenter of a timed-out operation is told (R132): the ISSUED entry becomes FAILED, a DRAINING slot returns
to HELD. The Clear Engine's part is the STUCK bank's leaving the clear queue. -/
def tellTimeout (s : State) (op : InFlight) : State :=
  match op.presenter with
  | .entry => { s with queue := s.queue.map fun e => if e.status == .issued then { e with status := .failed } else e }
  | .slot i => if slotIs .draining s.store.slots[i] then { s with store := s.store.returnHeld i } else s
  | .clearEngine => s

/-- The record of an access timeout (R131). -/
def timeoutReport (op : InFlight) : FaultReport :=
  ⟨.accessTimeout, op.bank, some (lineOfByte op.address), none, none, none⟩

/-- The operation in flight ends as a timeout (R131, R132, R87). DESIGN CHOICE: its bank's entries are marked FAILED
before the freeze is judged; unsafe: log 12. -/
def timeOut (s : State) (op : InFlight) : State :=
  (((s.endOperation op.bank).tellTimeout op).makeStuck op.bank).handFault (timeoutReport op)

end State

/-- COMPLETION (R125, R202): the completion of the operation in flight ends it and is routed; any other is late. -/
def execCompletion (number : BitVec 8) (report : Report) (data : Vector Word 8) (s : State) :
    Host.Outcome State Fault Refusal :=
  match s.port.inFlight with
  | some op =>
    if op.number = number then .next (((s.endOperation op.bank).route op report data).finishCompletion s op.kind.isWord)
    else .next s.lateCompletion
  | none => .next s.lateCompletion

/-- ACCESS_TIMEOUT (R131). With no operation in flight no access timer runs, and nothing happens (log 8). -/
def execAccessTimeout (s : State) : Host.Outcome State Fault Refusal :=
  match s.port.inFlight with
  | some op => .next ((s.timeOut op).finish s op.kind.isWord)
  | none => .next s

end Sys2Proof.Machine
end

