-- ==== Sys2Proof/Machine/Orders.lean ====
section
/-! DEFINITION. The bank orders (R89 to R94, R142, R145): the actions of BANK ORDER. An order that is not DONE changes
nothing but the reply (R89). -/

namespace Sys2Proof.Machine

namespace State

/-- The reply to a BANK ORDER, which has two argument bytes and no results (Table 10-2). -/
def replyOrder (s : State) (status : MgmtStatus) : State := s.reply 2 status []

/-- The checks of R89 on the bank number: BADARG for 8 or more, REFUSED for an unfitted bank. -/
def order (s : State) (bank : Byte) (action : BankNo → State) : State :=
  match eighth bank.toNat with
  | none => s.replyOrder .badarg
  | some b => if s.fitted b then action b else s.replyOrder .refused

/-- An accepted order: its effect, what follows it, and the reply DONE. -/
def accept (s effect : State) : State := (effect.finish s false).replyOrder .done

/-- An ACTIVE bank whose idle timer runs has it started afresh (R90): the timer stops here and follows its conditions at
the end of the event. -/
def holdAwake (s : State) (b : BankNo) : State := s.setBank b fun k => { k with idleTimer := .stopped }

/-- WAKE (R90). -/
def orderWake (s : State) (b : BankNo) : State :=
  match s.bankState b with
  | .off => s.accept (s.wake b .off)
  | .retain => s.accept (s.wake b .retain)
  | .descending _ => (s.setBank b fun k => { k with pendingWake := true }).replyOrder .done
  | .active => if s.banks[b].idleTimer.isRunning then s.accept (s.holdAwake b) else s.replyOrder .done
  | .waking _ => s.replyOrder .done
  | .clearing _ => s.replyOrder .done
  | .stuck _ => s.replyOrder .refused

/-- RETAIN (R91). -/
def orderRetain (s : State) (b : BankNo) : State :=
  if s.bankState b ≠ .active then s.replyOrder .refused
  else if s.inFlightFor b then s.replyOrder .busy
  else if s.entryCount b ≠ 0 ∨ s.drainWanted b then s.replyOrder .refused
  else s.accept (s.descend b .retain)

/-- OFF (R92). -/
def orderOff (s : State) (b : BankNo) : State :=
  if (s.bankState b = .active ∨ s.bankState b = .retain) ∧ s.lineCount b = 0 ∧ s.entryCount b = 0 then
    if s.inFlightFor b then s.replyOrder .busy else s.accept (s.descend b .off)
  else s.replyOrder .refused

/-- RETRY (R93). -/
def orderRetry (s : State) (b : BankNo) : State :=
  match s.bankState b with
  | .stuck origin => s.accept (s.wake b origin)
  | .off => s.replyOrder .refused
  | .retain => s.replyOrder .refused
  | .active => s.replyOrder .refused
  | .waking _ => s.replyOrder .refused
  | .descending _ => s.replyOrder .refused
  | .clearing _ => s.replyOrder .refused

/-- The effects of an accepted DISCARD, in the order of R94. -/
def discardBank (s : State) (b : BankNo) : State :=
  let s1 := { s with store := s.store.discard b }.afterFreeing b
  let s2 := s1.handFault ⟨.linesDiscarded, b, none, none, none, some (s.lineCount b)⟩
  (s2.setBank b fun k => { k with lost := true }).descend b .off

/-- DISCARD (R94). -/
def orderDiscard (s : State) (b : BankNo) : State :=
  if (s.bankState b).isStuck then s.accept (s.discardBank b) else s.replyOrder .refused

/-- CLEAR (R145, R144). -/
def orderClear (s : State) (b : BankNo) : State :=
  if s.lineCount b ≠ 0 ∨ s.entryCount b ≠ 0 then s.replyOrder .refused
  else
    match s.bankState b with
    | .active => s.accept (s.enterClearing b .retain)
    | .off => s.accept ((s.setClearPending b true).wake b .off)
    | .retain => s.accept ((s.setClearPending b true).wake b .retain)
    | .waking _ => s.replyOrder .refused
    | .descending _ => s.replyOrder .refused
    | .clearing _ => s.replyOrder .refused
    | .stuck _ => s.replyOrder .refused

/-- UNLOST (R142): it clears the LOST flag and changes nothing else. -/
def orderUnlost (s : State) (b : BankNo) : State :=
  if (s.bankState b).isClearing then s.replyOrder .refused
  else (s.setBank b fun k => { k with lost := false }).replyOrder .done

end State

/-- WAKE_ORDER (R90). -/
def execWakeOrder (bank : Byte) (s : State) : Host.Outcome State Fault Refusal := s.onFrame (.next (s.order bank s.orderWake))

/-- RETAIN_ORDER (R91). -/
def execRetainOrder (bank : Byte) (s : State) : Host.Outcome State Fault Refusal := s.onFrame (.next (s.order bank s.orderRetain))

/-- OFF_ORDER (R92). -/
def execOffOrder (bank : Byte) (s : State) : Host.Outcome State Fault Refusal := s.onFrame (.next (s.order bank s.orderOff))

/-- RETRY_ORDER (R93). -/
def execRetryOrder (bank : Byte) (s : State) : Host.Outcome State Fault Refusal := s.onFrame (.next (s.order bank s.orderRetry))

/-- DISCARD_ORDER (R94). -/
def execDiscardOrder (bank : Byte) (s : State) : Host.Outcome State Fault Refusal := s.onFrame (.next (s.order bank s.orderDiscard))

/-- CLEAR_ORDER (R145). -/
def execClearOrder (bank : Byte) (s : State) : Host.Outcome State Fault Refusal := s.onFrame (.next (s.order bank s.orderClear))

/-- UNLOST_ORDER (R142). -/
def execUnlostOrder (bank : Byte) (s : State) : Host.Outcome State Fault Refusal := s.onFrame (.next (s.order bank s.orderUnlost))

end Sys2Proof.Machine
end

