-- ==== Sys2Proof/Machine/Registers.lean ====
section
/-! DEFINITION. The register file (section 10, part 10.3): the numbers of Table 10-5, REG READ (R190, R195), and the
REG WRITE rows. Every REG WRITE makes the checks of R190 in their order: the number, read-only, the value's range, the
state of the part. -/

namespace Sys2Proof.Machine

/-- The registers of Table 10-5. -/
inductive Register where
  | config
  | hwm
  | ageLimit
  | settleLimit
  | accessLimit
  | irqStatus
  | irqEnable
  | resetRecord
  | lateCount
  | absorbedHigh
  | absorbedLow
  | servedHigh
  | servedLow
  | drainedHigh
  | drainedLow
  | msTime
  | policyA (b : BankNo)
  | policyB (b : BankNo)
  | wakeCount (b : BankNo)
  deriving DecidableEq, Repr

/-- The register that a number names; none for a number outside Table 10-5. -/
def registerOf (number : Byte) : Option Register :=
  let n := number.toNat
  match n with
  | 0x00 => some .config
  | 0x01 => some .hwm
  | 0x02 => some .ageLimit
  | 0x03 => some .settleLimit
  | 0x04 => some .accessLimit
  | 0x05 => some .irqStatus
  | 0x06 => some .irqEnable
  | 0x07 => some .resetRecord
  | 0x08 => some .lateCount
  | 0x09 => some .absorbedHigh
  | 0x0A => some .absorbedLow
  | 0x0B => some .servedHigh
  | 0x0C => some .servedLow
  | 0x0D => some .drainedHigh
  | 0x0E => some .drainedLow
  | 0x0F => some .msTime
  | _ =>
    if n < 0x18 then (eighth (n - 0x10)).map .policyA
    else if n < 0x20 then (eighth (n - 0x18)).map .policyB
    else (eighth (n - 0x20)).map .wakeCount

namespace State

/-- The value that a register reads as (Table 10-5). -/
def registerValue (s : State) (r : Register) : Nat :=
  match r with
  | .config => s.regs.banksFitted.toNat + 256 * s.regs.tickDiv.toNat
  | .hwm => s.regs.hwm.toNat
  | .ageLimit => s.regs.ageLimit.toNat
  | .settleLimit => s.regs.settleLimit.toNat
  | .accessLimit => s.regs.accessLimit.toNat
  | .irqStatus => s.irqStatus.toNat
  | .irqEnable => s.irq.enables.toNat
  | .resetRecord => s.regs.linesAtReset.toNat + 256 * s.regs.resetCount.toNat
  | .lateCount => s.port.lateCount.toNat
  | .absorbedHigh => s.store.absorbedWrites.toNat / 65536
  | .absorbedLow => s.regs.absorbedLow.toNat
  | .servedHigh => s.store.servedReads.toNat / 65536
  | .servedLow => s.regs.servedLow.toNat
  | .drainedHigh => s.store.drainedLines.toNat / 65536
  | .drainedLow => s.regs.drainedLow.toNat
  | .msTime => s.clock.msTime.toNat
  | .policyA b =>
    let p := s.regs.policy[b]
    p.retainDelay.toNat + 4096 * flagsValue [p.offAllowed, p.clearOnWake, p.lostCheck]
  | .policyB b => s.regs.policy[b].offDelay.toNat
  | .wakeCount b => s.banks[b].wakeCount.toNat

/-- A read of a counter's high register captures the lower 16 bits into its low register; no other read has an
effect (R195, R190). -/
def captureLow (s : State) (r : Register) : State :=
  match r with
  | .absorbedHigh => { s with regs := { s.regs with absorbedLow := s.store.absorbedWrites.setWidth 16 } }
  | .servedHigh => { s with regs := { s.regs with servedLow := s.store.servedReads.setWidth 16 } }
  | .drainedHigh => { s with regs := { s.regs with drainedLow := s.store.drainedLines.setWidth 16 } }
  | .config => s
  | .hwm => s
  | .ageLimit => s
  | .settleLimit => s
  | .accessLimit => s
  | .irqStatus => s
  | .irqEnable => s
  | .resetRecord => s
  | .lateCount => s
  | .absorbedLow => s
  | .servedLow => s
  | .drainedLow => s
  | .msTime => s
  | .policyA _ => s
  | .policyB _ => s
  | .wakeCount _ => s

/-- The reply to a REG WRITE, which has three argument bytes and no results (Table 10-2). -/
def replyWrite (s : State) (status : MgmtStatus) : State := s.reply 3 status []

/-- A write whose value is checked against its range and then taken: BADARG outside the range (R190). -/
def writeInRange (s : State) (inRange : Bool) (effect : State → State) : State :=
  if inRange then (effect s).replyWrite .done else s.replyWrite .badarg

/-- Whether a written CONFIG value is in range: BANKS FITTED 1 to 8 in bits 3 to 0, TICK DIV 1 to 64 in bits 14 to 8,
no other bit (Table 10-5). -/
def configInRange (v : BitVec 16) : Bool :=
  let fitted := v.toNat % 256
  let div := v.toNat / 256
  1 ≤ fitted && fitted ≤ 8 && 1 ≤ div && div ≤ 64

/-- The conditions for a change of BANKS FITTED: every bank OFF, no line, no entry (R191). -/
def mayRefit (s : State) : Bool :=
  ((List.finRange 8).all fun b => s.bankState b == .off) && s.store.fill == 0 && s.queue.isEmpty

/-- TICK DIV takes a new value, and the divider counts from the write (R198). -/
def setTickDiv (s : State) (v : BitVec 16) : State :=
  { s with
    regs := { s.regs with tickDiv := v.extractLsb' 8 7 }
    clock := { s.clock with divider := 0 } }

/-- A bank that becomes fitted takes its power-on values, and its status lines are read (R98, R96). A bank that was
fitted already, or becomes unfitted, keeps its record. -/
def fitBank (old new : Nat) (s : State) (b : BankNo) : State :=
  if old ≤ b.val && b.val < new then (s.setBank b fun _ => BankRecord.reset).sampleAtRest b else s

/-- BANKS FITTED changes (R98; ascending banks, log 16). -/
def refit (s : State) (v : BitVec 16) : State :=
  let old := s.regs.banksFitted.toNat
  let s1 := { s with regs := { s.regs with banksFitted := v.extractLsb' 0 4 } }
  (List.finRange 8).foldl (fitBank old (v.extractLsb' 0 4).toNat) s1

/-- The write of CONFIG (R191). -/
def writeConfig (s : State) (v : BitVec 16) : State :=
  if configInRange v then
    if v.extractLsb' 0 4 = s.regs.banksFitted then (s.setTickDiv v).replyWrite .done
    else if s.mayRefit then (((s.setTickDiv v).refit v).finish s false).replyWrite .done
    else s.replyWrite .refused
  else s.replyWrite .badarg

/-- The write of HWM: pressure is judged at once (R21, R193). -/
def writeHwm (s : State) (v : BitVec 16) : State :=
  s.writeInRange (1 ≤ v.toNat && v.toNat ≤ 32) fun s =>
    { s with regs := { s.regs with hwm := v.setWidth 6 } }.finish s false

/-- The write of AGE LIMIT: the age-expired indications are judged at once (R22, R193). -/
def writeAgeLimit (s : State) (v : BitVec 16) : State :=
  s.writeInRange (v.toNat ≤ 1023) fun s => { s with regs := { s.regs with ageLimit := v.setWidth 10 } }.finish s false

/-- The write of SETTLE LIMIT: used by each settle timer started after it (R74, R193). -/
def writeSettleLimit (s : State) (v : BitVec 16) : State :=
  s.writeInRange (1 ≤ v.toNat && v.toNat ≤ 255) fun s => { s with regs := { s.regs with settleLimit := v.setWidth 8 } }

/-- The write of ACCESS LIMIT: used at each grant after it (R123, R193). -/
def writeAccessLimit (s : State) (v : BitVec 16) : State :=
  s.writeInRange (1 ≤ v.toNat && v.toNat ≤ 255) fun s => { s with regs := { s.regs with accessLimit := v.setWidth 8 } }

/-- The write of IRQ STATUS: a one clears its latched flag; ones for FAULT and STUCK have no effect (R169). -/
def writeIrqStatus (s : State) (v : BitVec 16) : State :=
  s.writeInRange (v.toNat < 32) fun s =>
    { s with irq := { s.irq with
        lost := s.irq.lost && !v.getLsbD 2
        safe := s.irq.safe && !v.getLsbD 3
        clearDone := s.irq.clearDone && !v.getLsbD 4 } }

/-- The write of IRQ ENABLE (R170). -/
def writeIrqEnable (s : State) (v : BitVec 16) : State :=
  s.writeInRange (v.toNat < 32) fun s => { s with irq := { s.irq with enables := v.setWidth 5 } }

/-- The write of RESET RECORD: zero clears both fields, any other value is out of range (R199). -/
def writeResetRecord (s : State) (v : BitVec 16) : State :=
  s.writeInRange (v == 0) fun s => { s with regs := { s.regs with resetCount := 0, linesAtReset := 0 } }

/-- Change the policy of a bank. -/
def setPolicy (s : State) (b : BankNo) (f : Policy → Policy) : State :=
  { s with regs := { s.regs with policy := updAt s.regs.policy b f } }

/-- The write of BANK POLICY A; the bank's timers follow their conditions (R85, R194). -/
def writePolicyA (s : State) (b : BankNo) (v : BitVec 16) : State :=
  s.writeInRange (v.toNat < 32768) fun s =>
    (s.setPolicy b fun p =>
      { p with retainDelay := v.setWidth 12, offAllowed := v.getLsbD 12, clearOnWake := v.getLsbD 13,
               lostCheck := v.getLsbD 14 }).refreshTimersOf b

/-- The write of BANK POLICY B; the bank's timers follow their conditions (R85, R194). -/
def writePolicyB (s : State) (b : BankNo) (v : BitVec 16) : State :=
  s.writeInRange (v.toNat < 4096) fun s => (s.setPolicy b fun p => { p with offDelay := v.setWidth 12 }).refreshTimersOf b

end State

/-- COUNTER_HIGH_READ: REG READ of a register (R190). The value is that at the event (R187). The row carries every
register number: log 18. -/
def execCounterHighRead (number : Byte) (s : State) : Host.Outcome State Fault Refusal :=
  s.onFrame <|
    match registerOf number with
    | none => .next (s.reply 1 .badarg [])
    | some r => .next ((s.captureLow r).reply 1 .done (bytesOf 2 (s.registerValue r)))

/-- CONFIG_WRITE (R191). -/
def execConfigWrite (v : BitVec 16) (s : State) : Host.Outcome State Fault Refusal :=
  s.onFrame (.next (s.writeConfig v))

/-- HWM_WRITE (R193). -/
def execHwmWrite (v : BitVec 16) (s : State) : Host.Outcome State Fault Refusal :=
  s.onFrame (.next (s.writeHwm v))

/-- AGE_LIMIT_WRITE (R193). -/
def execAgeLimitWrite (v : BitVec 16) (s : State) : Host.Outcome State Fault Refusal :=
  s.onFrame (.next (s.writeAgeLimit v))

/-- IRQ_STATUS_WRITE (R169). -/
def execIrqStatusWrite (v : BitVec 16) (s : State) : Host.Outcome State Fault Refusal :=
  s.onFrame (.next (s.writeIrqStatus v))

/-- IRQ_ENABLE_WRITE (R170). -/
def execIrqEnableWrite (v : BitVec 16) (s : State) : Host.Outcome State Fault Refusal :=
  s.onFrame (.next (s.writeIrqEnable v))

/-- RESET_RECORD_WRITE (R199). -/
def execResetRecordWrite (v : BitVec 16) (s : State) : Host.Outcome State Fault Refusal :=
  s.onFrame (.next (s.writeResetRecord v))

/-- BANK_POLICY_A_WRITE (R194). -/
def execBankPolicyAWrite (b : BankNo) (v : BitVec 16) (s : State) : Host.Outcome State Fault Refusal :=
  s.onFrame (.next (s.writePolicyA b v))

/-- BANK_POLICY_B_WRITE (R194). -/
def execBankPolicyBWrite (b : BankNo) (v : BitVec 16) (s : State) : Host.Outcome State Fault Refusal :=
  s.onFrame (.next (s.writePolicyB b v))

/-- REG_WRITE of a register by number (R190): BADARG outside Table 10-5, REFUSED for a read-only register. The
registers with a row of their own are written as their rows are (log 18). -/
def execRegWrite (number : Byte) (v : BitVec 16) (s : State) : Host.Outcome State Fault Refusal :=
  s.onFrame <|
    match registerOf number with
    | none => .next (s.replyWrite .badarg)
    | some .settleLimit => .next (s.writeSettleLimit v)
    | some .accessLimit => .next (s.writeAccessLimit v)
    | some .lateCount => .next (s.replyWrite .refused)
    | some .absorbedHigh => .next (s.replyWrite .refused)
    | some .absorbedLow => .next (s.replyWrite .refused)
    | some .servedHigh => .next (s.replyWrite .refused)
    | some .servedLow => .next (s.replyWrite .refused)
    | some .drainedHigh => .next (s.replyWrite .refused)
    | some .drainedLow => .next (s.replyWrite .refused)
    | some .msTime => .next (s.replyWrite .refused)
    | some (.wakeCount _) => .next (s.replyWrite .refused)
    | some .config => .next (s.writeConfig v)
    | some .hwm => .next (s.writeHwm v)
    | some .ageLimit => .next (s.writeAgeLimit v)
    | some .irqStatus => .next (s.writeIrqStatus v)
    | some .irqEnable => .next (s.writeIrqEnable v)
    | some .resetRecord => .next (s.writeResetRecord v)
    | some (.policyA b) => .next (s.writePolicyA b v)
    | some (.policyB b) => .next (s.writePolicyB b v)

end Sys2Proof.Machine
end

