-- ==== Sys2Proof/Machine/Reports.lean ====
section
/-! DEFINITION. What the management port reports (section 10, part 10.7): STATUS (R200), SLOT READ (R25), REGION READ
(R38), REGION WRITE (R37), a frame that names no command (R188) or is not complete (R187), and the bytes that a frame shifts out (R186). -/

namespace Sys2Proof.Machine

/-- The code of a status (Table 10-3). -/
def MgmtStatus.code (st : MgmtStatus) : Byte :=
  match st with
  | .done => 0x00
  | .busy => 0x01
  | .badarg => 0x02
  | .refused => 0x03
  | .empty => 0x04

/-- Byte `k` of a frame as MDO shifts it out, the command byte's place being 0: zero while the command and its
arguments are shifted in, then the status byte, then the results, then zero (R186). -/
def Frame.byteOut (f : Frame) (k : Nat) : Byte :=
  if k ≤ f.argBytes then 0
  else if k = f.argBytes + 1 then f.status.code
  else (f.results[k - (f.argBytes + 2)]?).getD 0

/-- The code of a warning mode (Table 10-9). -/
def WarnMode.code (m : WarnMode) : Nat :=
  match m with
  | .normal => 0
  | .warn => 1
  | .recover => 2

/-- The code of an operation kind (Table 10-9). -/
def OpKind.code (k : OpKind) : Nat :=
  match k with
  | .wordRead => 0
  | .wordWrite => 1
  | .lineWrite => 2
  | .zeroLine => 3

/-- The code of a direction (Table 10-9). -/
def Rest.code (r : Rest) : Nat :=
  match r with
  | .retain => 0
  | .off => 1

/-- The code of a bank state (Table 10-9). -/
def BankState.code (st : BankState) : Nat :=
  match st with
  | .off => 0
  | .retain => 1
  | .active => 2
  | .waking _ => 3
  | .descending _ => 4
  | .clearing _ => 5
  | .stuck _ => 6

/-- The direction that a bank state carries: its target, origin or stuck origin; zero where it carries none
(Table 10-11, R200). -/
def BankState.direction (st : BankState) : Nat :=
  match st with
  | .off => 0
  | .retain => 0
  | .active => 0
  | .waking origin => origin.code
  | .descending target => target.code
  | .clearing origin => origin.code
  | .stuck origin => origin.code

namespace State

/-- The state bytes of a bank (Table 10-11), as numbers. -/
def stateBytes (s : State) (b : BankNo) : List Nat :=
  let k := s.banks[b]
  let c := s.causes[b]
  [ k.state.code + 8 * k.state.direction + 16 * flagsValue [k.lost, k.pendingWake, s.clear.wanted[b], s.fitted b],
    k.request.code + 4 * statusCode k.reported + 16 * k.settled.toNat,
    flagsValue [c.age, c.pressure, c.flush, c.warn],
    s.lineCount b,
    s.entryCount b ]

/-- The sequence number of the oldest record, or the next one when the log is empty (R200). -/
def oldestSeq (s : State) : BitVec 16 :=
  match s.faults.records with
  | [] => s.faults.nextSeq
  | r :: _ => r.seq

/-- The part fields of STATUS (Table 10-10), each with its width in bytes. -/
def partFields (s : State) : List (Nat × Nat) :=
  let inFlight := match s.port.inFlight with
    | some op => op.bank.val + 16 * op.kind.code
    | none => 0
  let head := match s.clear.queue with
    | [] => 0
    | b :: _ => b.val
  [ (1, s.mode.code + 4 * flagsValue [s.safe, s.port.inFlight.isSome, s.pins.resetn]),
    (1, inFlight),
    (1, s.store.fill),
    (1, s.queue.length),
    (1, s.faults.records.length),
    (1, s.faults.overflow.toNat),
    (2, s.oldestSeq.toNat),
    (1, flagsValue s.faults.hold.toList),
    (1, flagsValue s.faults.unlogged.toList),
    (1, s.clear.queue.length + 16 * s.clear.incomplete.toNat + 32 * head),
    (3, s.clear.cursor.toNat),
    (1, flagsValue [s.pins.fltpass, s.pins.supwarn]) ]

/-- The 55 result bytes of STATUS (R200). -/
def statusBytes (s : State) : List Byte :=
  s.partFields.flatMap (fun f => bytesOf f.1 f.2) ++
    (List.finRange 8).flatMap fun b => (s.stateBytes b).map fun v => BitVec.ofNat 8 v

/-- The 47 result bytes of SLOT READ (Table 10-7, R25). -/
def slotReadBytes (s : State) (i : SlotNo) : List Byte :=
  match s.store.slots[i] with
  | none => bytesOf 46 0 ++ [0xFF]
  | some l =>
    let state := match l.state with
      | .held => 1
      | .draining => 2
    bytesOf 1 (state + 4 * l.redirty.toNat) ++ bytesOf 3 l.addr.toNat ++ bytesOf 4 (flagsValue (maskOf l.bytes).toList) ++
      l.bytes.toList.map (fun o => o.getD 0) ++ bytesOf 2 l.allocatedAt.toNat ++ bytesOf 2 l.age.toNat ++
      [l.contributors, l.drainContributors, BitVec.ofNat 8 (s.store.ageList.idxOf i)]

end State

/-- The eight result bytes of REGION READ (Table 10-8). -/
def Region.bytes (g : Region) : List Byte :=
  bytesOf 1 (flagsValue [g.valid, g.absorb, g.serve]) ++ bytesOf 3 g.base.toNat ++ bytesOf 3 g.limit.toNat ++
    [g.initiators]

/-- The region entry of a REGION WRITE's argument bytes (Table 10-8); flag bits that the layout does not name are
ignored (R37). -/
def Region.ofArguments (flags : Byte) (base limit : BitVec 24) (initiators : Byte) : Region :=
  ⟨flags.getLsbD 0, base.setWidth 21, limit.setWidth 21, initiators, flags.getLsbD 1, flags.getLsbD 2⟩

/-- Whether the lines of a REGION WRITE are in range: neither above 2,097,151, and base not above limit (R37). -/
def linesInRange (base limit : BitVec 24) : Bool :=
  base.toNat < 2097152 && limit.toNat < 2097152 && base.toNat ≤ limit.toNat

/-- The write of a region entry: the entry takes the new fields as a whole, and the change is a release event (R37). -/
def State.writeRegion (s : State) (g : Fin 8) (flags : Byte) (base limit : BitVec 24) (initiators : Byte) : State :=
  if linesInRange base limit then
    ({ s with regions := updAt s.regions g fun _ => Region.ofArguments flags base limit initiators }.finish s
      true).reply 9 .done []
  else s.reply 9 .badarg []

/-- A frame has begun and its command is not complete: it does nothing so far (R187), MCS is low, and the frame before it has
ended (R186; log 19). -/
def State.beginFrame (s : State) : State := { s with mgmt := none, pins := { s.pins with mcsLow := true } }

/-- INVALID_COMMAND (R188): a code outside Table 10-2, or an action outside Table 10-4 (R89), gets BADARG and has no
effect. A frame whose command byte or argument bytes are not complete has none either (R187; log 19). A frame that does name
a command is another row and is not presented here (log 6). -/
def execInvalidCommand (frame : List Byte) (s : State) : Host.Outcome State Fault Refusal :=
  if namesNoCommand frame then s.onFrame (.next (s.reply (frame.length - 1) .badarg []))
  else if (decodeFrame frame).isNone then s.onFrame (.next s.beginFrame)
  else .fault .cannotBePresented

/-- STATUS (R200). -/
def execStatus (s : State) : Host.Outcome State Fault Refusal :=
  s.onFrame (.next (s.reply 0 .done s.statusBytes))

/-- SLOT READ (R25). -/
def execSlotRead (slot : Byte) (s : State) : Host.Outcome State Fault Refusal :=
  s.onFrame <|
    if h : slot.toNat < 32 then .next (s.reply 1 .done (s.slotReadBytes ⟨slot.toNat, h⟩))
    else .next (s.reply 1 .badarg [])

/-- REGION READ (R38). -/
def execRegionRead (entry : Byte) (s : State) : Host.Outcome State Fault Refusal :=
  s.onFrame <|
    match eighth entry.toNat with
    | some g => .next (s.reply 1 .done (s.regions[g]).bytes)
    | none => .next (s.reply 1 .badarg [])

/-- REGION WRITE (R37). -/
def execRegionWrite (entry flags : Byte) (base limit : BitVec 24) (initiators : Byte) (s : State) :
    Host.Outcome State Fault Refusal :=
  s.onFrame <|
    match eighth entry.toNat with
    | some g => .next (s.writeRegion g flags base limit initiators)
    | none => .next (s.reply 9 .badarg [])

end Sys2Proof.Machine
end

