-- ==== Sys2Proof/Machine/SPort.lean ====
section
/-! DEFINITION. REQUEST_TAKEN: the taking of a request at the S port (R29, R56, R58). -/

namespace Sys2Proof.Machine

namespace State

/-- Whether the S port takes a presented request: RESETn is negated (R29), the queue holds fewer than 16 entries and
the initiator has fewer than four unanswered requests (R58). -/
def mayTake (s : State) (r : Request) : Bool :=
  !s.pins.resetn && s.queue.length < Config.holdCapacity && s.unanswered r.initiator < Config.unansweredLimit

/-- The effect of a taking: behind an earlier entry of its initiator the request waits with reason ORDER, otherwise it
is evaluated (R29, R56). -/
def takeRequest (s : State) (r : Request) : State :=
  if s.unanswered r.initiator = 0 then s.firstEvaluation r else s.appendEntry r (.waiting .order)

end State

/-- REQUEST_TAKEN (R29). A request that is not taken stays on the bus and changes nothing (log 5). -/
def execRequestTaken (r : Request) (s : State) : Host.Outcome State Fault Refusal :=
  if r.presentable then
    if s.mayTake r then .next ((s.takeRequest r).finish s false) else .next s
  else .fault .cannotBePresented

end Sys2Proof.Machine
end

