-- ==== Sys2Proof/Machine/Timebase.lean ====
section
/-! DEFINITION. The timebase (R196, R197): one CLK cycle, the ticks and counter steps it brings, the millisecond step as
a command, and the expiry event that has come due. -/

namespace Sys2Proof.Machine

namespace State

/-- Every bank's timer of one kind counts a step of its counter. -/
def countBanks (s : State) (f : BankRecord → BankRecord) : State := { s with banks := mapAll s.banks f }

/-- A step of the 10 millisecond counter: the off timers count (R196, R84). -/
def tenMilliStep (s : State) : State := s.countBanks fun k => { k with offTimer := k.offTimer.count }

/-- A step of the millisecond counter: the millisecond time and every line's age rise (R196, R6), and each tenth step is
one of the 10 millisecond counter (log 25). -/
def milliStep (s : State) : State :=
  let s1 := { s with store := s.store.ageAll, clock := { s.clock with msTime := s.clock.msTime + 1 } }
  if s.clock.tenMilli + 1 < 10 then { s1 with clock := { s1.clock with tenMilli := s.clock.tenMilli + 1 } }
  else { s1 with clock := { s1.clock with tenMilli := 0 } }.tenMilliStep

/-- A tick counts toward the settle timers through the 10 microsecond counter. -/
def tickSettle (s : State) : State :=
  if s.clock.tenMicro + 1 < 10 then { s with clock := { s.clock with tenMicro := s.clock.tenMicro + 1 } }
  else { s with clock := { s.clock with tenMicro := 0 } }.countBanks fun k => { k with settleTimer := k.settleTimer.count }

/-- A tick counts toward the idle timers through the 100 microsecond counter. -/
def tickIdle (s : State) : State :=
  if s.clock.hundred + 1 < 100 then { s with clock := { s.clock with hundred := s.clock.hundred + 1 } }
  else { s with clock := { s.clock with hundred := 0 } }.countBanks fun k => { k with idleTimer := k.idleTimer.count }

/-- A tick counts toward the millisecond counter. -/
def tickMilli (s : State) : State :=
  if s.clock.milli + 1 < 1000 then { s with clock := { s.clock with milli := s.clock.milli + 1 } }
  else { s with clock := { s.clock with milli := 0 } }.milliStep

/-- A tick counts for the access timer directly (R196). -/
def tickAccess (s : State) : State :=
  match s.port.inFlight with
  | some op => { s with port := { s.port with inFlight := some { op with accessTimer := op.accessTimer.count } } }
  | none => s

/-- A tick: each timer counts it directly or through its counter (R196). -/
def tick (s : State) : State := s.tickAccess.tickSettle.tickIdle.tickMilli

/-- One cycle of CLK: the divider produces a tick at each TICK DIV-th cycle (R196). -/
def clockCycle (s : State) : State :=
  if s.clock.divider + 1 < s.regs.tickDiv.toNat then
    { s with clock := { s.clock with divider := s.clock.divider + 1 } }
  else { s with clock := { s.clock with divider := 0 } }.tick

/-- Whether the access timer of the operation in flight has expired (R131). -/
def accessDue (s : State) : Bool :=
  match s.port.inFlight with
  | some op => op.accessTimer.isDue
  | none => false

/-- The lowest-numbered bank that meets a condition. -/
def firstBank (p : BankNo → Bool) : Option BankNo := (List.finRange 8).find? p

/-- The expiry event that has come due, if one has. DESIGN CHOICE of the order among several: access, settle, idle, off,
age, each by ascending bank; unsafe: log 26. -/
def dueEvent (s : State) : Option Instr :=
  if s.accessDue then some .accessTimeout
  else ((firstBank fun b => (s.bankState b).inTransition && s.banks[b].settleTimer.isDue).map .settleTimeout).or
    (((firstBank fun b => s.bankState b == .active && s.banks[b].idleTimer.isDue).map .idleTimerExpiry).or
    (((firstBank fun b => s.bankState b == .retain && s.banks[b].offTimer.isDue).map .offTimerExpiry).or
    ((firstBank fun b => s.ageExpired b && !(s.causes[b]).age).map .ageExpiry)))

end State

/-- MILLISECOND_COUNTER_STEP (R196, R6). The age-expiry event that a step brings is the row AGE_EXPIRY (log 11). -/
def execMillisecondCounterStep (s : State) : Host.Outcome State Fault Refusal := .next s.milliStep

end Sys2Proof.Machine
end

