-- ==== Sys2Proof/Machine/Dispatch.lean ====
section
/-! DEFINITION. One arm for each row of the table: its meaning. -/

namespace Sys2Proof.Machine

/-- The effect of a command on everything but the queue of waiting commands. -/
def exec (i : Instr) (s : State) : Host.Outcome State Fault Refusal :=
  match i with
  | .requestTaken r => Sys2Proof.Machine.execRequestTaken r s
  | .completion number report data => Sys2Proof.Machine.execCompletion number report data s
  | .accessTimeout => Sys2Proof.Machine.execAccessTimeout s
  | .settleTimeout b => Sys2Proof.Machine.execSettleTimeout b s
  | .statusLineChange b level settled => Sys2Proof.Machine.execStatusLineChange b level settled s
  | .idleTimerExpiry b => Sys2Proof.Machine.execIdleTimerExpiry b s
  | .offTimerExpiry b => Sys2Proof.Machine.execOffTimerExpiry b s
  | .ageExpiry b => Sys2Proof.Machine.execAgeExpiry b s
  | .supwarnAssertion => Sys2Proof.Machine.execSupwarnAssertion s
  | .supwarnNegation => Sys2Proof.Machine.execSupwarnNegation s
  | .fltpassAssertion => Sys2Proof.Machine.execFltpassAssertion s
  | .fltpassNegation => Sys2Proof.Machine.execFltpassNegation s
  | .resetnAssertion => Sys2Proof.Machine.execResetnAssertion s
  | .resetnNegation => Sys2Proof.Machine.execResetnNegation s
  | .powerOnReset => Sys2Proof.Machine.execPowerOnReset s
  | .invalidCommand frame => Sys2Proof.Machine.execInvalidCommand frame s
  | .status => Sys2Proof.Machine.execStatus s
  | .counterHighRead number => Sys2Proof.Machine.execCounterHighRead number s
  | .regWrite number v => Sys2Proof.Machine.execRegWrite number v s
  | .configWrite v => Sys2Proof.Machine.execConfigWrite v s
  | .hwmWrite v => Sys2Proof.Machine.execHwmWrite v s
  | .ageLimitWrite v => Sys2Proof.Machine.execAgeLimitWrite v s
  | .irqStatusWrite v => Sys2Proof.Machine.execIrqStatusWrite v s
  | .irqEnableWrite v => Sys2Proof.Machine.execIrqEnableWrite v s
  | .resetRecordWrite v => Sys2Proof.Machine.execResetRecordWrite v s
  | .bankPolicyAWrite b v => Sys2Proof.Machine.execBankPolicyAWrite b v s
  | .bankPolicyBWrite b v => Sys2Proof.Machine.execBankPolicyBWrite b v s
  | .regionRead entry => Sys2Proof.Machine.execRegionRead entry s
  | .regionWrite entry flags base limit initiators => Sys2Proof.Machine.execRegionWrite entry flags base limit initiators s
  | .slotRead slot => Sys2Proof.Machine.execSlotRead slot s
  | .wakeOrder bank => Sys2Proof.Machine.execWakeOrder bank s
  | .retainOrder bank => Sys2Proof.Machine.execRetainOrder bank s
  | .offOrder bank => Sys2Proof.Machine.execOffOrder bank s
  | .retryOrder bank => Sys2Proof.Machine.execRetryOrder bank s
  | .discardOrder bank => Sys2Proof.Machine.execDiscardOrder bank s
  | .clearOrder bank => Sys2Proof.Machine.execClearOrder bank s
  | .unlostOrder bank => Sys2Proof.Machine.execUnlostOrder bank s
  | .flush bank => Sys2Proof.Machine.execFlush bank s
  | .flushAll => Sys2Proof.Machine.execFlushAll s
  | .faultPeek => Sys2Proof.Machine.execFaultPeek s
  | .faultPop => Sys2Proof.Machine.execFaultPop s
  | .faultPopRemoval shifted => Sys2Proof.Machine.execFaultPopRemoval shifted s
  | .clearUnlogged bank => Sys2Proof.Machine.execClearUnlogged bank s
  | .millisecondCounterStep => Sys2Proof.Machine.execMillisecondCounterStep s

end Sys2Proof.Machine
end

