-- ==== Sys2Proof/Machine/Step.lean ====
section
/-! DEFINITION. One step: the command at the front of the queue, or, when none waits, the timebase (log 1). -/

namespace Sys2Proof.Machine

/-- With no command waiting: the expiry event that has come due, else one CLK cycle. DESIGN CHOICE: log 1, log 26. -/
def idle (s : State) : Host.Outcome State Fault Refusal :=
  match s.dueEvent with
  | some c => exec c s
  | none => .next s.clockCycle

/-- Take the command at the front of the queue and carry it out on the state with the queue's rest. -/
def step (s : State) : Host.Outcome State Fault Refusal :=
  match s.pending with
  | [] => idle s
  | c :: rest => exec c { s with pending := rest }

/-- The state with the command that a word spells at the front of the queue; unchanged where it spells none. -/
def State.withFetchWord (s : State) (nbits w : Nat) : State :=
  match decodeTableWord nbits w with
  | some c => { s with pending := c :: s.pending }
  | none => s

end Sys2Proof.Machine
end

