-- ==== Sys2Proof/Safety.lean ====
section
/-! DEFINITION. What claims call a good state: the laws of the part that every step keeps (the numbered laws L1, L2, L3, L5,
L9 and L12 of the spec among them), each as one named predicate, and the conditions that statements name. -/

namespace Sys2Proof.Machine.State

/-- Law L9 (R156): at most 8 records, their sequence numbers consecutive modulo 65,536 and ending one before the next
sequence number. -/
def LogOrdered (s : State) : Prop :=
  s.faults.records.length ≤ Config.logCapacity ∧
    ∀ k r, s.faults.records[k]? = some r →
      r.seq = s.faults.nextSeq - BitVec.ofNat 16 (s.faults.records.length - k)

/-- Law L3 (R58): at most 16 entries, and no initiator with more than 4 unanswered requests. -/
def QueueBounded (s : State) : Prop :=
  s.queue.length ≤ Config.holdCapacity ∧ ∀ i, s.unanswered i ≤ Config.unansweredLimit

/-- An entry at head has been evaluated and is not FAILED, and an entry that is not at head is WAITING(ORDER) or FAILED
(R54, R69). -/
def EntriesInOrder (s : State) : Prop :=
  ∀ k e, s.queue[k]? = some e →
    (s.atHead k e = true → e.status ≠ .waiting .order ∧ e.status ≠ .failed) ∧
      (s.atHead k e = false → e.status = .waiting .order ∨ e.status = .failed)

/-- At most one entry is ISSUED, and one is exactly while the operation in flight is an entry's, which is then a word
operation (R54, R65, Table 6-2). -/
def IssuedInFlight (s : State) : Prop :=
  (s.queue.countP fun e => e.status == .issued) ≤ 1 ∧
    ((∃ e ∈ s.queue, e.status = .issued) ↔ ∃ op, s.port.inFlight = some op ∧ op.presenter = .entry) ∧
    ∀ op, s.port.inFlight = some op → op.presenter = .entry → op.kind.isWord = true

/-- The tags of an initiator's requests in the Hold Queue, in their order. -/
def waitingTags (s : State) (i : Initiator) : List (BitVec 4) :=
  (s.queue.filter fun e => e.request.initiator == i).map fun e => e.request.tag

/-- The tags of the responses that an initiator has received, in their order. -/
def sentTags (s : State) (i : Initiator) : List (BitVec 4) :=
  (s.out.responses.filter fun r => r.initiator == i).map fun r => r.tag

/-- The age list holds each occupied slot exactly once and no FREE slot (R5), and no two occupied slots hold the same
line (law L1, R4). -/
def StoreOrdered (s : State) : Prop :=
  s.store.ageList.Nodup ∧ (∀ i : SlotNo, i ∈ s.store.ageList ↔ (s.store.slots[i]).isSome) ∧
    ∀ (i j : SlotNo) (l m : Line), s.store.slots[i] = some l → s.store.slots[j] = some m → l.addr = m.addr → i = j

/-- Every occupied slot has at least one byte valid (R1). -/
def LinesNotEmpty (s : State) : Prop :=
  ∀ (i : SlotNo) (l : Line), s.store.slots[i] = some l → ∃ n : Fin 32, (l.bytes[n]).isSome

/-- Law L5 (R110): a slot is DRAINING only while its drain write is the operation in flight. -/
def DrainInFlight (s : State) : Prop :=
  ∀ (i : SlotNo) (l : Line), s.store.slots[i] = some l → l.state = .draining →
    ∃ op, s.port.inFlight = some op ∧ op.kind = .lineWrite ∧ op.presenter = .slot i

/-- A bank's fault hold is set exactly while a record names the bank or its unlogged mark is set (R158, R159). -/
def HoldsExact (s : State) : Prop := ∀ b : BankNo, s.faults.hold[b] = (s.recordNames b || s.faults.unlogged[b])

/-- The overflow count is non-zero exactly while at least one bank carries an unlogged mark (R157). -/
def OverflowExact (s : State) : Prop := s.faults.overflow ≠ 0 ↔ ∃ b : BankNo, s.faults.unlogged[b] = true

/-- A bank that holds no lines has its drain-wanted flag clear (R99). -/
def FlagsHaveLines (s : State) : Prop := ∀ b : BankNo, s.drainWanted b = true → s.lineCount b ≠ 0

/-- At most one bank holds the PRESSURE cause (R99). -/
def OnePressureBank (s : State) : Prop :=
  ∀ b c : BankNo, (s.causes[b]).pressure = true → (s.causes[c]).pressure = true → b = c

/-- A bank stands in the clear queue exactly while its state is CLEARING, and at most once (R143). -/
def ClearQueueExact (s : State) : Prop :=
  s.clear.queue.Nodup ∧ ∀ b : BankNo, b ∈ s.clear.queue ↔ (s.bankState b).isClearing = true

/-- The configuration registers stay in the ranges of Table 10-5. -/
def RegistersInRange (s : State) : Prop :=
  (1 ≤ s.regs.banksFitted.toNat ∧ s.regs.banksFitted.toNat ≤ 8) ∧
    (1 ≤ s.regs.tickDiv.toNat ∧ s.regs.tickDiv.toNat ≤ 64) ∧
    (1 ≤ s.regs.hwm.toNat ∧ s.regs.hwm.toNat ≤ 32) ∧ 1 ≤ s.regs.settleLimit.toNat ∧ 1 ≤ s.regs.accessLimit.toNat

/-- The mode is WARN exactly while SUPWARN is asserted, and RECOVER only while the store holds a line (R173, R176). -/
def ModeFollowsInput (s : State) : Prop :=
  (s.mode = .warn ↔ s.pins.supwarn = true) ∧ (s.mode = .recover → s.store.fill ≠ 0)

/-- How a bank's state stands with its request level, its status lines and its settle timer (R73, Table 4-2): at rest,
ACTIVE or CLEARING it is settled at its request level and the timer is stopped; in a transition it is not, and the timer
runs; STUCK, the timer is stopped. -/
def HandshakeOf (s : State) (b : BankNo) : Prop :=
  match s.bankState b with
  | .off => s.banks[b].request = .off ∧ s.banks[b].atRequest = true ∧ s.banks[b].settleTimer.isRunning = false
  | .retain => s.banks[b].request = .retain ∧ s.banks[b].atRequest = true ∧ s.banks[b].settleTimer.isRunning = false
  | .active => s.banks[b].request = .active ∧ s.banks[b].atRequest = true ∧ s.banks[b].settleTimer.isRunning = false
  | .clearing _ => s.banks[b].request = .active ∧ s.banks[b].atRequest = true ∧ s.banks[b].settleTimer.isRunning = false
  | .waking _ => s.banks[b].request = .active ∧ s.banks[b].atRequest = false ∧ s.banks[b].settleTimer.isRunning = true
  | .descending target =>
    s.banks[b].request = target.level ∧ s.banks[b].atRequest = false ∧ s.banks[b].settleTimer.isRunning = true
  | .stuck _ => s.banks[b].settleTimer.isRunning = false

/-- No entry is READY for a frozen bank (law L12, R49, R160): the Arbiter grants the M port to READY entries only. -/
def FrozenHaveNoReady (s : State) : Prop :=
  ∀ e ∈ s.queue, e.status = .ready → s.frozen e.request.bank = false

/-- The idle and off timers of every bank run exactly while their conditions hold (R82, R84, R85, R97). -/
def TimersFollowConditions (s : State) : Prop :=
  ∀ b : BankNo, s.banks[b].idleTimer.isRunning = s.idleConditions b ∧ s.banks[b].offTimer.isRunning = s.offConditions b

/-- No work that may be granted waits while the M port is FREE and RESETn is negated (R134), but where the assertion of
RESETn falls together with the completion just taken (R202; log 29). -/
def NoWorkAtFreePort (s : State) : Prop :=
  s.pins.resetn = false → s.resetFollows = false → s.port.inFlight = none → s.choice = none

/-- Whether a bank in this state holds no lines: the states of law L2 (R84), and STUCK with stuck origin OFF (R86). -/
def holdsNoLines (st : BankState) : Bool :=
  match st with
  | .off => true
  | .clearing _ => true
  | .descending .off => true
  | .waking .off => true
  | .stuck .off => true
  | .retain => false
  | .active => false
  | .descending .retain => false
  | .waking .retain => false
  | .stuck .retain => false

/-- Law L2 (R84): the store holds no line of a bank in these states. With it go the two facts that keep it: a bank with a
clear pending holds no lines (R145, R146), and neither does a bank whose off timer runs (R84). -/
def SleepersHoldNoLines (s : State) : Prop :=
  ∀ b : BankNo, (holdsNoLines (s.bankState b) = true → s.lineCount b = 0) ∧
    (s.clear.wanted[b] = true → s.lineCount b = 0) ∧ (s.banks[b].offTimer.isRunning = true → s.lineCount b = 0)

/-! ## Conditions that the statements name -/

/-- The access timer of the operation in flight has expired (R131, R197). -/
def AccessDue (s : State) : Prop := ∃ op, s.port.inFlight = some op ∧ op.accessTimer.isDue = true

/-- The settle timer of a bank in a transition has expired (R75, R197). -/
def SettleDue (s : State) (b : BankNo) : Prop :=
  (s.bankState b).inTransition = true ∧ s.banks[b].settleTimer.isDue = true

/-- The idle timer of an ACTIVE bank has expired (R83, R197). -/
def IdleDue (s : State) (b : BankNo) : Prop := s.bankState b = .active ∧ s.banks[b].idleTimer.isDue = true

/-- The off timer of a RETAIN bank has expired (R84, R197). -/
def OffDue (s : State) (b : BankNo) : Prop := s.bankState b = .retain ∧ s.banks[b].offTimer.isDue = true

/-- The age-expired indication of a bank is true and its AGE cause is still to come (R22, R100). -/
def AgeDue (s : State) (b : BankNo) : Prop := s.ageExpired b = true ∧ (s.causes[b]).age = false

/-- A slot that may be drained: it holds a HELD line of an ACTIVE bank (R107), whose drain-wanted flag is set where
`flagged` asks for it. -/
def IsDrainCandidate (s : State) (flagged : Bool) (i : SlotNo) : Prop :=
  ∃ l, s.store.slots[i] = some l ∧ l.state = .held ∧ s.bankState l.bank = .active ∧
    (flagged = true → s.drainWanted l.bank = true)

/-- A slot is the first of the age list that meets a condition (R5). -/
def FirstInAgeList (s : State) (p : SlotNo → Prop) (i : SlotNo) : Prop :=
  ∃ older younger, s.store.ageList = older ++ i :: younger ∧ p i ∧ ∀ j ∈ older, ¬p j

/-- What an operation carries, by its presenter, in the state that its grant left: the address, count and words of the entry
now ISSUED (R65), the first byte, bytes and mask of the slot now DRAINING (R11, R110), the first byte of the cursor's line
(R147). -/
def Carries (t : State) (op : InFlight) (m : MemOp) : Prop :=
  match op.presenter with
  | .entry => ∃ e ∈ t.queue, e.status = .issued ∧ op.bank = e.request.bank ∧ op.address = e.request.address ∧
      op.count = e.request.count ∧
      match e.request.access with
      | .read count => op.kind = .wordRead ∧ m = .wordRead e.request.address count
      | .write words => op.kind = .wordWrite ∧ m = .wordWrite e.request.address words
  | .slot i => ∃ l, t.store.slots[i] = some l ∧ l.state = .draining ∧ l.redirty = false ∧ l.drainContributors = 0 ∧
      op.kind = .lineWrite ∧ op.bank = l.bank ∧ op.address = firstByte l.addr ∧ op.count = 8 ∧
      m = .lineWrite (firstByte l.addr) l.bytes
  | .clearEngine => t.clear.outstanding = true ∧ t.clear.queue.head? = some op.bank ∧ op.kind = .zeroLine ∧
      op.address = firstByte (lineInBank op.bank t.clear.cursor.toNat) ∧ op.count = 8 ∧ m = .zeroLine op.address

/-- Between `s` and `t` the operation that was in flight has ended (R126): the port is FREE, or holds an operation issued since,
with the next number (R123, R134). -/
def OperationEnded (s t : State) : Prop :=
  (t.port.inFlight = none ∧ t.port.opNumber = s.port.opNumber) ∨
    ∃ op, t.port.inFlight = some op ∧ op.number = s.port.opNumber + 1 ∧ t.port.opNumber = op.number

/-- The idle timer of a bank has started afresh with RETAIN DELAY where its conditions hold, and is stopped elsewhere (R126,
R82). -/
def IdleTimerAfresh (t : State) (b : BankNo) : Prop :=
  t.banks[b].idleTimer = if t.idleConditions b then .running t.regs.policy[b].retainDelay.toNat 0 else .stopped

/-- A timer that was stopped and runs counts from 0 toward a limit (R82, R84, R197). -/
def StartedWith (limit : Nat) (before after : Timer) : Prop :=
  before.isRunning = false → after.isRunning = true → after = .running limit 0

/-- `t` has the queue, the responses and the lines that `w` has, but for what the grant at the end of the event does: it may
issue one READY entry, or the drain of one slot (R134). -/
def QueueIsThatOf (t w : State) : Prop :=
  t.out.responses = w.out.responses ∧ t.queue.map Entry.request = w.queue.map Entry.request ∧
    (∀ (k : Nat) (e : Entry), w.queue[k]? = some e → ∃ e' : Entry, t.queue[k]? = some e' ∧
      (e'.status = e.status ∨ (e.status = .ready ∧ e'.status = .issued))) ∧
    t.store.ageList = w.store.ageList ∧ t.store.absorbedWrites = w.store.absorbedWrites ∧
    t.store.servedReads = w.store.servedReads ∧
    ∀ i : SlotNo, (t.store.slots[i]).map (fun l => (l.addr, l.bytes)) = (w.store.slots[i]).map fun l => (l.addr, l.bytes)

end Sys2Proof.Machine.State
end

