-- ==== Sys2Proof/Certificates/Slice0/Obligations.lean ====
section
/-! DEFINITION. The statements about the model that are to be proved. `t` is always the state that a command leaves; an
equation `exec c s = .next ...` says that the command completes and gives the whole state after it. A new reply on the
management port is `some ⟨argument bytes, status, result bytes, mark of FAULT POP⟩`. -/

open Sys2Proof Sys2Proof.Machine

/-! ## The step and the timebase -/

/-- One step takes the command at the front of the queue and carries it out on the state with the queue's rest (95). -/
def Obligations.StepTakesTheFrontCommand : Prop :=
  ∀ (c : Instr) (rest : List Instr) (s : State), s.pending = c :: rest → step s = exec c { s with pending := rest }

/-- With no command waiting a step carries out the expiry event that has come due, else it is one CLK cycle (the model's
choice: log 1, log 26). R196: the divider gives a tick at each TICK DIV-th cycle, and each counter and timer counts ticks
directly or through its own counter. R197: a timer of N units expires at its step N + 1 (the model's reading: log 9). The
event that has come due is that of a timer that has expired, or of an age-expired indication whose cause is still to come;
among several the order is access, settle, idle, off, age, each by the lowest bank (the model's choice: log 26). -/
def Obligations.IdleStepsRunTheTimebase : Prop :=
  ∀ s : State,
    (s.pending = [] → (∀ c, s.dueEvent = some c → step s = exec c s) ∧
      (s.dueEvent = none → step s = .next s.clockCycle)) ∧
    (s.clock.divider + 1 < s.regs.tickDiv.toNat →
      s.clockCycle = { s with clock := { s.clock with divider := s.clock.divider + 1 } }) ∧
    (s.regs.tickDiv.toNat ≤ s.clock.divider + 1 →
      s.clockCycle.clock =
        { divider := 0
          tenMicro := if s.clock.tenMicro + 1 < 10 then s.clock.tenMicro + 1 else 0
          hundred := if s.clock.hundred + 1 < 100 then s.clock.hundred + 1 else 0
          milli := if s.clock.milli + 1 < 1000 then s.clock.milli + 1 else 0
          tenMilli :=
            if s.clock.milli + 1 < 1000 then s.clock.tenMilli
            else if s.clock.tenMilli + 1 < 10 then s.clock.tenMilli + 1 else 0
          msTime := if s.clock.milli + 1 < 1000 then s.clock.msTime else s.clock.msTime + 1 } ∧
      (∀ b : BankNo, s.clockCycle.banks[b] =
        { s.banks[b] with
          settleTimer := if s.clock.tenMicro + 1 < 10 then s.banks[b].settleTimer else s.banks[b].settleTimer.count
          idleTimer := if s.clock.hundred + 1 < 100 then s.banks[b].idleTimer else s.banks[b].idleTimer.count
          offTimer :=
            if s.clock.milli + 1 < 1000 ∨ s.clock.tenMilli + 1 < 10 then s.banks[b].offTimer
            else s.banks[b].offTimer.count }) ∧
      s.clockCycle.port =
        { s.port with inFlight := s.port.inFlight.map fun op => { op with accessTimer := op.accessTimer.count } } ∧
      (∀ i : SlotNo, s.clockCycle.store.slots[i] =
        if s.clock.milli + 1 < 1000 then s.store.slots[i]
        else (s.store.slots[i]).map fun l =>
          if l.ageRuns then { l with age := satInc l.age } else { l with ageRuns := true })) ∧
    (∀ limit steps : Nat, (Timer.count^[steps] (Timer.start limit)).isDue = decide (limit < steps)) ∧
    (s.dueEvent = some .accessTimeout ↔ s.AccessDue) ∧
    (∀ b : BankNo, s.dueEvent = some (.settleTimeout b) ↔ ¬s.AccessDue ∧ s.SettleDue b ∧ ∀ c < b, ¬s.SettleDue c) ∧
    (∀ b : BankNo, s.dueEvent = some (.idleTimerExpiry b) ↔
      ¬s.AccessDue ∧ (∀ c, ¬s.SettleDue c) ∧ s.IdleDue b ∧ ∀ c < b, ¬s.IdleDue c) ∧
    (∀ b : BankNo, s.dueEvent = some (.offTimerExpiry b) ↔
      ¬s.AccessDue ∧ (∀ c, ¬s.SettleDue c) ∧ (∀ c, ¬s.IdleDue c) ∧ s.OffDue b ∧ ∀ c < b, ¬s.OffDue c) ∧
    (∀ b : BankNo, s.dueEvent = some (.ageExpiry b) ↔
      ¬s.AccessDue ∧ (∀ c, ¬s.SettleDue c) ∧ (∀ c, ¬s.IdleDue c) ∧ (∀ c, ¬s.OffDue c) ∧ s.AgeDue b ∧
        ∀ c < b, ¬s.AgeDue c) ∧
    (s.dueEvent = none ↔
      ¬s.AccessDue ∧ ∀ c, ¬s.SettleDue c ∧ ¬s.IdleDue c ∧ ¬s.OffDue c ∧ ¬s.AgeDue c)

/-- A step of the millisecond counter (R196, R6): the millisecond time rises, and with it every line's age, but at the first
step after the line's allocation or renewal, which begins the count, so that age N is reached at step N + 1 (R197; the
model's reading: log 10). Each tenth step counts for the off timers (log 25). Nothing else changes: the age-expiry event that
a step brings is a command of its own (the model's choice: log 11). -/
def Obligations.MillisecondStepAgesEveryLine : Prop :=
  ∀ s : State, ∃ t, exec .millisecondCounterStep s = .next t ∧
    t = { s with store := t.store, banks := t.banks, clock := t.clock } ∧
    t.clock = { s.clock with
      msTime := s.clock.msTime + 1
      tenMilli := if s.clock.tenMilli + 1 < 10 then s.clock.tenMilli + 1 else 0 } ∧
    t.store = { s.store with slots := t.store.slots } ∧
    (∀ i : SlotNo, t.store.slots[i] = (s.store.slots[i]).map fun l =>
      if l.ageRuns then { l with age := if l.age = 65535 then 65535 else l.age + 1 } else { l with ageRuns := true }) ∧
    (∀ (l : Line) (steps : Nat),
      (LineStore.agedLine^[steps + 1] { l with age := 0, ageRuns := false }).age.toNat = min steps 65535) ∧
    ∀ b : BankNo, t.banks[b] =
      { s.banks[b] with
        offTimer := if s.clock.tenMilli + 1 < 10 then s.banks[b].offTimer else s.banks[b].offTimer.count }

/-! ## Reset -/

/-- The state after power-on reset has every invariant stated below. -/
def Obligations.ResetHoldsEveryInvariant : Prop :=
  State.reset.LogOrdered ∧ State.reset.HoldsExact ∧ State.reset.OverflowExact ∧ State.reset.QueueBounded ∧
    State.reset.EntriesInOrder ∧ State.reset.IssuedInFlight ∧
    State.reset.StoreOrdered ∧ State.reset.LinesNotEmpty ∧ State.reset.DrainInFlight ∧ State.reset.FlagsHaveLines ∧
    State.reset.OnePressureBank ∧ State.reset.ClearQueueExact ∧ State.reset.RegistersInRange ∧
    State.reset.ModeFollowsInput ∧ State.reset.FrozenHaveNoReady ∧ State.reset.TimersFollowConditions ∧
    State.reset.NoWorkAtFreePort ∧ State.reset.SleepersHoldNoLines ∧ ∀ b : BankNo, State.reset.HandshakeOf b

/-- The values of Table 10-5 after power-on reset, as REG READ returns them (R190, R191, R193 to R195, R199). -/
def Obligations.ResetRegistersReadAsTheTableGives : Prop :=
  ∀ number : Byte, number.toNat < 0x28 →
    exec (.counterHighRead number) State.reset = .next { State.reset with
      mgmt := some ⟨1, .done,
        match number.toNat with
        | 0x00 => [0x19, 0x08]
        | 0x01 => [0x00, 0x18]
        | 0x02 => [0x00, 0x64]
        | 0x03 => [0x00, 0x32]
        | 0x04 => [0x00, 0x40]
        | _ => [0x00, 0x00], false⟩ }

/-- Power-on reset (R26, R34, R71, R96, R119, R138, R153, R171, R184, R189 to R199): every block takes its power-on values,
then each bank's status lines and SUPWARN are sampled. The input lines, the record of what has left the part and the
waiting commands are outside the reset (log 3). R189: a frame in progress is discarded, and after a reset that ends with
MCS low no management command is taken until MCS has risen (log 28). -/
def Obligations.PowerOnResetGivesThePowerOnValues : Prop :=
  (∀ (c : Instr) (s : State), c.isFrameCommand = true → c.wellFormed = true → s.awaitRise = true → exec c s = .next s) ∧
  ∀ s : State, ∃ t, exec .powerOnReset s = .next t ∧
    t.awaitRise = (s.pins.mcsLow || s.mgmt.isSome) ∧
    t.store = LineStore.reset ∧ (∀ g : Fin 8, t.regions[g] = Region.reset) ∧ t.queue = [] ∧
    (∀ b : BankNo, t.causes[b] = DrainCauses.none) ∧ t.port = MemoryPort.reset ∧ t.clear = ClearEngine.reset ∧
    t.regs = Registers.reset ∧ t.clock = Timebase.reset ∧ t.mgmt = none ∧
    t.pins = { s.pins with mcsLow := s.pins.mcsLow || s.mgmt.isSome } ∧ t.out = s.out ∧
    t.pending = s.pending ∧
    t.mode = (if s.pins.supwarn then .warn else .normal) ∧ t.safe = s.pins.supwarn ∧
    t.irq = { lost := false, safe := s.pins.supwarn, clearDone := false, enables := 0 } ∧
    (∀ b : BankNo, t.banks[b] =
      { BankRecord.reset with
        state := if s.pins.pset[b] && s.pins.pstat[b] == .off then .off else .stuck .off
        reported := s.pins.pstat[b]
        settled := s.pins.pset[b] }) ∧
    (∀ b : BankNo, t.faults.hold[b] = !(s.pins.pset[b] && s.pins.pstat[b] == .off) ∧ t.faults.unlogged[b] = false) ∧
    t.faults.overflow = 0 ∧ t.faults.nextSeq = BitVec.ofNat 16 t.faults.records.length ∧
    t.faults.records.map (fun r => r.report) =
      ((List.finRange 8).filter fun b => !(s.pins.pset[b] && s.pins.pstat[b] == .off)).map fun b =>
        ⟨.unsolicitedChange, b, none, none, none, some 0⟩

/-! ## Frames of the management port -/

/-- R186, R187: the frame of a well-formed management command is read as that command, whatever bytes follow it, and no
beginning of it is read as any command. R186: every eight bits shifted in are a byte, most significant bit first, and the bits of
an incomplete byte are discarded; shifted out are zero up to the last argument byte, then the status code of Table 10-3, then
the results, then zero. -/
def Obligations.FramesCarryTheirCommand : Prop :=
  (∀ (i : Instr) (frame : List Byte), i.wellFormed = true → encodeFrame i = some frame →
    (∀ rest : List Byte, decodeFrame (frame ++ rest) = some i) ∧
      ∀ n : Nat, n < frame.length → decodeFrame (frame.take n) = none) ∧
  (∀ bits : List Bool, (bytesOfBits bits).length = bits.length / 8 ∧
    ∀ k j : Nat, k < bits.length / 8 → j < 8 →
      ∃ byte : Byte, (bytesOfBits bits)[k]? = some byte ∧ bits[8 * k + j]? = some (byte.getLsbD (7 - j))) ∧
  ∀ (f : Frame) (k : Nat),
    (k ≤ f.argBytes → f.byteOut k = 0) ∧
    (k = f.argBytes + 1 → f.byteOut k = (match f.status with
      | .done => 0x00
      | .busy => 0x01
      | .badarg => 0x02
      | .refused => 0x03
      | .empty => 0x04)) ∧
    (∀ (n : Nat) (byte : Byte), f.results[n]? = some byte → k = f.argBytes + 2 + n → f.byteOut k = byte) ∧
    (f.argBytes + 2 + f.results.length ≤ k → f.byteOut k = 0)

/-! ## Invariants that every step keeps -/

/-- Law L9 (R156). -/
def Obligations.StepKeepsTheLogOrdered : Prop :=
  ∀ s t : State, s.LogOrdered → step s = .next t → t.LogOrdered

/-- R157, R158, R159: holds and the overflow count follow the records and the unlogged marks. -/
def Obligations.StepKeepsHoldsAndOverflowExact : Prop :=
  ∀ s t : State, s.HoldsExact ∧ s.OverflowExact → step s = .next t → t.HoldsExact ∧ t.OverflowExact

/-- Law L3 (R58). -/
def Obligations.StepKeepsTheQueueBounded : Prop :=
  ∀ s t : State, s.QueueBounded → step s = .next t → t.QueueBounded

/-- R54, R65: an entry at head has been evaluated and is not FAILED, one behind is WAITING(ORDER) or FAILED, and at most one
entry is ISSUED, the one whose word operation is in flight. -/
def Obligations.StepKeepsEntriesInTheirOrder : Prop :=
  ∀ s t : State, s.EntriesInOrder ∧ s.IssuedInFlight → step s = .next t → t.EntriesInOrder ∧ t.IssuedInFlight

/-- Law L1 (R4), the age list (R5), and a valid byte in every line (R1). -/
def Obligations.StepKeepsTheStoreOrdered : Prop :=
  ∀ s t : State, s.StoreOrdered ∧ s.LinesNotEmpty → step s = .next t → t.StoreOrdered ∧ t.LinesNotEmpty

/-- Law L5 (R110). -/
def Obligations.StepKeepsDrainsInFlight : Prop :=
  ∀ s t : State, s.DrainInFlight → step s = .next t → t.DrainInFlight

/-- R99: a flagged bank holds lines, and at most one bank holds PRESSURE. -/
def Obligations.StepKeepsDrainFlagsExact : Prop :=
  ∀ s t : State, s.FlagsHaveLines ∧ s.OnePressureBank → step s = .next t → t.FlagsHaveLines ∧ t.OnePressureBank

/-- R73, Table 4-2: every bank's state agrees with its request level, its status lines and its settle timer. R143: the clear
queue lists the CLEARING banks. -/
def Obligations.StepKeepsTheHandshakeAndTheClearQueue : Prop :=
  ∀ s t : State, (∀ b : BankNo, s.HandshakeOf b) ∧ s.ClearQueueExact → step s = .next t →
    (∀ b : BankNo, t.HandshakeOf b) ∧ t.ClearQueueExact

/-- Table 10-5: the configuration registers stay in range. R173, R176: the mode follows SUPWARN and the store. -/
def Obligations.StepKeepsRegistersAndModeLegal : Prop :=
  ∀ s t : State, s.RegistersInRange ∧ s.ModeFollowsInput → step s = .next t →
    t.RegistersInRange ∧ t.ModeFollowsInput

/-- Law L12 (R162), the Arbiter's part: no entry is READY for a frozen bank. -/
def Obligations.StepKeepsFrozenBanksUnready : Prop :=
  ∀ s t : State, s.FrozenHaveNoReady → step s = .next t → t.FrozenHaveNoReady

/-- R82, R84, R85, R97: the idle and off timers run exactly while their conditions hold, and one that starts at a step counts
from 0 toward the delay of its bank, RETAIN DELAY or OFF DELAY. -/
def Obligations.StepKeepsTimersWithTheirConditions : Prop :=
  ∀ s t : State, s.TimersFollowConditions → step s = .next t →
    t.TimersFollowConditions ∧
      ∀ b : BankNo,
        State.StartedWith (t.regs.policy[b]).retainDelay.toNat s.banks[b].idleTimer t.banks[b].idleTimer ∧
          State.StartedWith (t.regs.policy[b]).offDelay.toNat s.banks[b].offTimer t.banks[b].offTimer

/-- R134: no grantable work waits at a FREE port, but between a completion and the assertion of RESETn that falls together
with it (R202; log 29). -/
def Obligations.StepLeavesNoWorkAtAFreePort : Prop :=
  ∀ s t : State, s.NoWorkAtFreePort → step s = .next t → t.NoWorkAtFreePort

/-- Law L2 (R84). -/
def Obligations.StepKeepsSleepersWithoutLines : Prop :=
  ∀ s t : State, s.SleepersHoldNoLines → step s = .next t → t.SleepersHoldNoLines

/-! ## What a command leaves alone -/

/-- Which commands may change the configuration, the clock, the input lines, the Fault Log, the mode, the interrupt enables,
the counters of ended operations and the frame, clear a latched interrupt flag (R168), and take a line or a valid byte out
of the Line Store (law L11, R24); every other command leaves each of them as it was, and no command touches the queue of
waiting commands. The reports, and the writes of registers that no event waits on, leave the banks, the Hold Queue, the drain
causes, the Clear Engine, the M port, the Line Store and the outputs as they were. Of these blocks every other command may
change this much: a status line is read, a bank leaves STUCK, LOST clears, a wake count falls, FLUSH or WARN joins or leaves
a set of causes, a clear ends, the operation in flight ends and a request joins the Hold Queue, each at its own commands
only. That a STUCK bank stays STUCK is said where the clear queue lists the CLEARING banks only (R143, an invariant stated
above). -/
def Obligations.OnlyTheirCommandsWriteTheseBlocks : Prop :=
  ∀ (c : Instr) (s t : State), c.wellFormed = true → exec c s = .next t →
    t.pending = s.pending ∧
    (match c with
      | .regionWrite _ _ _ _ _ | .powerOnReset => True
      | _ => t.regions = s.regions) ∧
    (match c with
      | .counterHighRead _ | .regWrite _ _ | .configWrite _ | .hwmWrite _ | .ageLimitWrite _ | .resetRecordWrite _
      | .bankPolicyAWrite _ _ | .bankPolicyBWrite _ _ | .resetnAssertion | .powerOnReset => True
      | _ => t.regs = s.regs) ∧
    (match c with
      | .millisecondCounterStep | .configWrite _ | .powerOnReset => True
      | _ => t.clock = s.clock) ∧
    (match c with
      | .statusLineChange _ _ _ | .supwarnAssertion | .supwarnNegation | .fltpassAssertion | .fltpassNegation
      | .resetnAssertion | .resetnNegation => True
      | .faultPopRemoval _ => t.pins = { s.pins with mcsLow := false }
      | .powerOnReset => t.pins = { s.pins with mcsLow := s.pins.mcsLow || s.mgmt.isSome }
      | _ => t.pins = s.pins) ∧
    (match c with
      | .completion _ _ _ | .accessTimeout | .settleTimeout _ | .statusLineChange _ _ _ | .discardOrder _
      | .configWrite _ | .faultPopRemoval _ | .clearUnlogged _ | .powerOnReset => True
      | _ => t.faults = s.faults) ∧
    (match c with
      | .supwarnAssertion | .supwarnNegation | .completion _ _ _ | .discardOrder _ | .powerOnReset => True
      | _ => t.mode = s.mode) ∧
    (match c with
      | .irqEnableWrite _ | .powerOnReset => True
      | _ => t.irq.enables = s.irq.enables) ∧
    (match c with
      | .completion _ _ _ | .powerOnReset => True
      | _ => t.port.lateCount = s.port.lateCount ∧ t.store.drainedLines = s.store.drainedLines) ∧
    (match c with
      | .irqStatusWrite _ | .powerOnReset => True
      | _ => (s.irq.lost = true → t.irq.lost = true) ∧ (s.irq.safe = true → t.irq.safe = true) ∧
        (s.irq.clearDone = true → t.irq.clearDone = true)) ∧
    (match c with
      | .completion _ _ _ | .discardOrder _ | .powerOnReset => True
      | _ => ∀ (i : SlotNo) (l : Line), s.store.slots[i] = some l → ∃ l', t.store.slots[i] = some l' ∧ l'.addr = l.addr ∧
        ∀ n : Fin 32, (l.bytes[n]).isSome = true → (l'.bytes[n]).isSome = true) ∧
    (match c with
      | .powerOnReset | .faultPopRemoval _ => True
      | _ => t.awaitRise = s.awaitRise ∧ (c.isFrameCommand = false → t.mgmt = s.mgmt)) ∧
    (match c with
      | .invalidCommand _ | .status | .counterHighRead _ | .regWrite _ _ | .irqStatusWrite _ | .irqEnableWrite _
      | .resetRecordWrite _ | .regionRead _ | .slotRead _ | .faultPeek | .faultPop =>
        t.banks = s.banks ∧ t.queue = s.queue ∧ t.causes = s.causes ∧ t.clear = s.clear ∧ t.port = s.port ∧
          t.store = s.store ∧ t.out = s.out
      | .bankPolicyAWrite _ _ | .bankPolicyBWrite _ _ | .unlostOrder _ | .millisecondCounterStep =>
        t.queue = s.queue ∧ t.causes = s.causes ∧ t.clear = s.clear ∧ t.port = s.port ∧ t.out = s.out
      | _ => True) ∧
    (match c with
      | .statusLineChange _ _ _ | .configWrite _ | .powerOnReset => True
      | _ => ∀ b : BankNo, t.banks[b].reported = s.banks[b].reported ∧ t.banks[b].settled = s.banks[b].settled) ∧
    (match c with
      | .retryOrder _ | .discardOrder _ | .configWrite _ | .powerOnReset => True
      | _ => s.ClearQueueExact → ∀ b : BankNo, (s.bankState b).isStuck = true → t.bankState b = s.bankState b) ∧
    (match c with
      | .completion _ _ _ | .unlostOrder _ => True
      | _ => ∀ b : BankNo, s.banks[b].lost = true → t.banks[b].lost = true) ∧
    (match c with
      | .configWrite _ | .powerOnReset => True
      | _ => ∀ b : BankNo, s.banks[b].wakeCount ≤ t.banks[b].wakeCount) ∧
    (match c with
      | .flush _ | .flushAll | .completion _ _ _ | .discardOrder _ | .powerOnReset => True
      | _ => ∀ b : BankNo, (t.causes[b]).flush = (s.causes[b]).flush) ∧
    (match c with
      | .supwarnAssertion | .completion _ _ _ | .discardOrder _ | .powerOnReset => True
      | _ => ∀ b : BankNo, (t.causes[b]).warn = (s.causes[b]).warn) ∧
    (match c with
      | .completion _ _ _ | .accessTimeout | .settleTimeout _ | .statusLineChange _ _ _ | .configWrite _
      | .resetnAssertion | .powerOnReset => True
      | _ => s.clear.queue <+: t.clear.queue ∧
        (s.clear.queue ≠ [] → t.clear.cursor = s.clear.cursor ∧ t.clear.incomplete = s.clear.incomplete)) ∧
    (match c with
      | .completion _ _ _ | .accessTimeout | .resetnAssertion | .powerOnReset => True
      | _ => ∀ op, s.port.inFlight = some op → t.port.inFlight = some op) ∧
    (match c with
      | .requestTaken _ => True
      | _ => (t.queue.map Entry.request).Sublist (s.queue.map Entry.request))

/-- R123, R124 (law L7), R134: a command sends nothing back into the past; it issues at most one operation, which carries the
next operation number, is the one in flight afterwards, and goes to a bank in the state that its kind requires. R65, R11,
R110, R147: it carries the address, count and words of the entry that is now ISSUED, or the first byte, bytes and mask of the
slot that is now DRAINING without redirty and drain contributors, or the first byte of the cursor's line. -/
def Obligations.EachEventIssuesAtMostOneOperation : Prop :=
  ∀ (c : Instr) (s t : State), exec c s = .next t →
    s.out.responses <+: t.out.responses ∧
      (t.out.issued = s.out.issued ∨
        ∃ op m, t.port.inFlight = some op ∧ op.number = s.port.opNumber + 1 ∧ t.port.opNumber = op.number ∧
          t.out.issued = s.out.issued ++ [⟨op.number, m⟩] ∧ t.Carries op m ∧
          op.accessTimer = .start t.regs.accessLimit.toNat ∧
          (if op.kind = .zeroLine then (t.bankState op.bank).isClearing = true else t.bankState op.bank = .active))

/-- Law L6 (R70, R30, R57): for each initiator, the requests answered and the requests that wait, together in one list, change by
the request that a command takes and by nothing else: every request is answered once, in the order taken. A reset discards
those that wait and answers none of them (R71). -/
def Obligations.ResponsesLeaveInTheOrderTaken : Prop :=
  ∀ (c : Instr) (s t : State) (i : Initiator), s.EntriesInOrder → exec c s = .next t →
    match c with
    | .powerOnReset => t.sentTags i = s.sentTags i ∧ t.waitingTags i = []
    | .resetnAssertion =>
      t.sentTags i = s.sentTags i ∧ t.waitingTags i = (if s.pins.resetn then s.waitingTags i else [])
    | .requestTaken r =>
      t.sentTags i ++ t.waitingTags i = s.sentTags i ++ s.waitingTags i ++
        (if r.initiator = i ∧ s.mayTake r = true then [r.tag] else [])
    | _ => t.sentTags i ++ t.waitingTags i = s.sentTags i ++ s.waitingTags i

/-! ## The S port -/

/-- R28, R29, R58, R56: a request that cannot be presented is no command; one that backpressure or RESETn keeps out changes
nothing (log 5); one taken behind an earlier entry of its initiator is entered as WAITING(ORDER) and not evaluated. -/
def Obligations.RequestsWaitOutsideOrInOrder : Prop :=
  ∀ (r : Request) (s : State),
    (r.presentable = false → exec (.requestTaken r) s = .fault .cannotBePresented) ∧
    (r.presentable = true → s.pins.resetn = true ∨ 16 ≤ s.queue.length ∨ 4 ≤ s.unanswered r.initiator →
      exec (.requestTaken r) s = .next s) ∧
    (r.presentable = true → s.pins.resetn = false → s.queue.length < 16 → s.unanswered r.initiator ≠ 0 →
      s.unanswered r.initiator < 4 →
      ∃ t, exec (.requestTaken r) s = .next t ∧ t.out.responses = s.out.responses ∧
        t.queue.map Entry.request = s.queue.map Entry.request ++ [r] ∧
        t.queue.getLast?.map Entry.status = some (.waiting .order) ∧
        t.store.absorbedWrites = s.store.absorbedWrites ∧ t.store.servedReads = s.store.servedReads ∧
        t.store.ageList = s.store.ageList)

/-- R39, R30, R7 to R9, R18, R44 to R48: what each outcome of the decision does to a request taken with no earlier entry of its
initiator. Its bank's state agrees with its lines (an invariant stated above). -/
def Obligations.FirstEvaluationTakesItsOutcome : Prop :=
  ∀ (r : Request) (s : State), r.presentable = true → s.pins.resetn = false → s.queue.length < 16 →
    s.unanswered r.initiator = 0 → s.HandshakeOf r.bank →
    ∃ t, exec (.requestTaken r) s = .next t ∧
      match s.judge r with
      | .refused code =>
        t.out.responses = s.out.responses ++ [⟨r.initiator, r.tag, code, []⟩] ∧
          t.queue.map Entry.request = s.queue.map Entry.request ∧ t.store.ageList = s.store.ageList ∧
          t.store.absorbedWrites = s.store.absorbedWrites ∧ t.store.servedReads = s.store.servedReads
      | .noEffect =>
        t.out.responses = s.out.responses ++ [⟨r.initiator, r.tag, .ok, []⟩] ∧
          t.queue.map Entry.request = s.queue.map Entry.request ∧ t.store.ageList = s.store.ageList ∧
          t.store.absorbedWrites = s.store.absorbedWrites ∧ t.store.servedReads = s.store.servedReads
      | .served i =>
        t.out.responses = s.out.responses ++ [⟨r.initiator, r.tag, .ok, servedWords (s.slotBytes i) r⟩] ∧
          t.queue.map Entry.request = s.queue.map Entry.request ∧ t.store.ageList = s.store.ageList ∧
          t.store.absorbedWrites = s.store.absorbedWrites ∧ t.store.servedReads = s.store.servedReads + 1
      | .merged i =>
        t.out.responses = s.out.responses ++ [⟨r.initiator, r.tag, .ok, []⟩] ∧
          t.queue.map Entry.request = s.queue.map Entry.request ∧ t.store.ageList = s.store.ageList ∧
          t.store.absorbedWrites = s.store.absorbedWrites + 1 ∧ t.store.servedReads = s.store.servedReads ∧
          ∀ l, s.store.slots[i] = some l → ∃ l', t.store.slots[i] = some l' ∧ l'.addr = l.addr ∧
            l'.bytes = mergeBytes r l.bytes ∧ l'.allocatedAt = l.allocatedAt ∧ l'.age = l.age ∧ l'.ageRuns = l.ageRuns ∧
            l'.contributors = addInitiator l.contributors r.initiator ∧
            (l.state = .draining → l'.state = .draining ∧ l'.redirty = true ∧
              l'.drainContributors = addInitiator l.drainContributors r.initiator)
      | .allocated i =>
        t.out.responses = s.out.responses ++ [⟨r.initiator, r.tag, .ok, []⟩] ∧
          t.queue.map Entry.request = s.queue.map Entry.request ∧ t.store.ageList = s.store.ageList ++ [i] ∧
          t.store.absorbedWrites = s.store.absorbedWrites + 1 ∧ t.store.servedReads = s.store.servedReads ∧
          t.clear.wanted[r.bank] = false ∧
          ∃ l', t.store.slots[i] = some l' ∧ l'.addr = r.line ∧ l'.bytes = mergeBytes r noBytes ∧
            l'.allocatedAt = s.clock.msTime ∧ l'.age = 0 ∧ l'.ageRuns = false ∧
            l'.contributors = addInitiator 0 r.initiator
      | .forwarded =>
        t.out.responses = s.out.responses ∧ t.queue.map Entry.request = s.queue.map Entry.request ++ [r] ∧
          (t.queue.getLast?.map Entry.status = some .ready ∨ t.queue.getLast?.map Entry.status = some .issued)
      | .held reason =>
        t.out.responses = s.out.responses ∧ t.queue.map Entry.request = s.queue.map Entry.request ++ [r] ∧
          t.queue.getLast?.map Entry.status = some (.waiting reason) ∧
          (reason = .bank →
            (s.bankState r.bank = .off → t.bankState r.bank = .waking .off) ∧
            (s.bankState r.bank = .retain → t.bankState r.bank = .waking .retain) ∧
            ((s.bankState r.bank = .descending .off ∨ s.bankState r.bank = .descending .retain) →
              t.banks[r.bank].pendingWake = true))

/-- R61, R62, R69: a release walk visits the entries from the oldest to the youngest, each effect before the next visit. A
WAITING entry at head is judged from check 1 and takes the outcome: it is answered and leaves, or keeps its place with its
new status; a FAILED entry at head is answered E-BANK; any other is passed over. R49: at a freeze the READY entries of the
banks that became frozen are judged in the same way, the oldest first (the model's choice: log 31). -/
def Obligations.WalksReevaluateTheOldestFirst : Prop :=
  ∀ s pre : State,
    s.releaseWalk = sweep State.walkRule s.queue.length 0 s ∧
    State.freezeReevaluation pre s = sweep (State.freezeRule pre s) s.queue.length 0 s ∧
    (∀ (u : State) (k : Nat) (e : Entry),
      (State.walkRule u k e = .evaluate ↔ u.atHead k e = true ∧ ∃ reason, e.status = .waiting reason) ∧
      (State.walkRule u k e = .fail ↔ u.atHead k e = true ∧ e.status = .failed) ∧
      (u.atHead k e = true ↔
        ∀ j < k, ∀ e', u.queue[j]? = some e' → e'.request.initiator ≠ e.request.initiator) ∧
      (State.freezeRule pre s u k e = .evaluate ↔
        e.status = .ready ∧ pre.frozen e.request.bank = false ∧ s.frozen e.request.bank = true) ∧
      State.freezeRule pre s u k e ≠ .fail) ∧
    ∀ (rule : State → Nat → Entry → Visit) (left k : Nat),
      (s.queue[k]? = none → sweep rule (left + 1) k s = s) ∧
      ∀ e, s.queue[k]? = some e →
        let answered (code : Code) (data : List Word) (t : State) : State :=
          { t with
            queue := t.queue.eraseIdx k
            out := { t.out with responses := t.out.responses ++ [⟨e.request.initiator, e.request.tag, code, data⟩] } }
        let marked (status : EntryStatus) : State :=
          { s with queue := s.queue.modify k fun e => { e with status := status } }
        (rule s k e = .pass → sweep rule (left + 1) k s = sweep rule left (k + 1) s) ∧
        (rule s k e = .fail → sweep rule (left + 1) k s = sweep rule left k (answered .eBank [] s)) ∧
        (rule s k e = .evaluate →
          match s.judge e.request with
          | .refused code => sweep rule (left + 1) k s = sweep rule left k (answered code [] s)
          | .noEffect => sweep rule (left + 1) k s = sweep rule left k (answered .ok [] s)
          | .served i =>
            sweep rule (left + 1) k s = sweep rule left k
              (answered .ok (servedWords (s.slotBytes i) e.request)
                { s with store := { s.store with servedReads := s.store.servedReads + 1 } })
          | .merged i =>
            sweep rule (left + 1) k s = sweep rule left k (answered .ok [] { s with store := s.store.merge i e.request })
          | .allocated i =>
            sweep rule (left + 1) k s = sweep rule left k
              (answered .ok []
                { s with
                  store := s.store.allocate i e.request s.clock.msTime
                  clear := { s.clear with wanted := updAt s.clear.wanted e.request.bank fun _ => false } })
          | .forwarded => sweep rule (left + 1) k s = sweep rule left (k + 1) (marked .ready)
          | .held .bank =>
            sweep rule (left + 1) k s = sweep rule left (k + 1) ((marked (.waiting .bank)).demand e.request.bank)
          | .held .frozen => sweep rule (left + 1) k s = sweep rule left (k + 1) (marked (.waiting .frozen))
          | .held .order => False)

/-- Table 2-6: the decision of the Request Handler, check by check (R32, R33, R40 to R47). R4: a line is looked up in the lowest
slot that holds it, which is the only one by law L1. R17: a line covers a request exactly when it has valid every byte of every
requested word. -/
def Obligations.DecisionFollowsItsTable : Prop :=
  ∀ (r : Request) (s : State),
    (∀ (a : LineAddr) (i : SlotNo), s.store.lookup a = some i ↔
      (∃ l, s.store.slots[i] = some l ∧ l.addr = a) ∧
        ∀ j : SlotNo, j < i → ∀ l, s.store.slots[j] = some l → l.addr ≠ a) ∧
    (∀ a : LineAddr, s.store.lookup a = none ↔ ∀ (j : SlotNo) (l : Line), s.store.slots[j] = some l → l.addr ≠ a) ∧
    (∀ (i : SlotNo) (l : Line), s.store.lookup r.line = some i → s.store.slots[i] = some l →
      s.store.bytesOfLine r.line = l.bytes) ∧
    (r.address.toNat % 32 / 4 + r.count ≤ 8 → ∀ bytes : Vector (Option Byte) 32, covers bytes r = true ↔
      ∀ i < r.count, ∀ j < 4, (byteOf bytes (4 * (r.address.toNat % 32 / 4 + i) + j)).isSome = true) ∧
    ((r.address.toNat % 4 ≠ 0 ∨ 8 < r.address.toNat % 32 / 4 + r.count ∨ s.regs.banksFitted.toNat ≤ r.bank.val) →
      s.judge r = .refused .eDecode) ∧
    ((r.address.toNat % 4 = 0 ∧ r.address.toNat % 32 / 4 + r.count ≤ 8 ∧ r.bank.val < s.regs.banksFitted.toNat) →
      (r.isZeroEnable = true → s.judge r = .noEffect) ∧
      (r.isZeroEnable = false →
        (∀ i : SlotNo,
          (r.isWrite = false ∧ s.store.lookup r.line = some i ∧ covers (s.store.bytesOfLine r.line) r = true ∧
            (s.bankState r.bank = .active ∨ s.frozen r.bank = true ∨ (s.bankState r.bank).isStuck = true ∨
              ((s.bankState r.bank).isAsleep = true ∧ (s.attributes r).serve = true))) →
          s.judge r = .served i) ∧
        (r.isWrite = true ∨ s.store.lookup r.line = none ∨ covers (s.store.bytesOfLine r.line) r = false ∨
            (s.bankState r.bank ≠ .active ∧ s.frozen r.bank = false ∧ (s.bankState r.bank).isStuck = false ∧
              ((s.bankState r.bank).isAsleep = false ∨ (s.attributes r).serve = false)) →
          (s.frozen r.bank = true → s.judge r = .held .frozen) ∧
          (s.frozen r.bank = false → (s.bankState r.bank).isStuck = true → s.judge r = .refused .eBank) ∧
          (s.frozen r.bank = false → (s.bankState r.bank).isStuck = false → r.isWrite = true →
            (∀ i, s.store.lookup r.line = some i → s.judge r = .merged i) ∧
            (s.store.lookup r.line = none → s.bankState r.bank = .active → s.judge r = .forwarded) ∧
            (s.store.lookup r.line = none → s.bankState r.bank ≠ .active →
              (∀ i : SlotNo,
                (s.attributes r).absorb = true ∧ s.mode = .normal ∧ (s.bankState r.bank).mayAllocate = true ∧
                  s.wordWriteInFlight r.line = false ∧ (s.store.slots[i]).isNone = true ∧
                  (∀ j : SlotNo, j < i → (s.store.slots[j]).isSome = true) →
                s.judge r = .allocated i) ∧
              ((s.attributes r).absorb = false ∨ s.mode ≠ .normal ∨ (s.bankState r.bank).mayAllocate = false ∨
                  s.wordWriteInFlight r.line = true ∨ (∀ j : SlotNo, (s.store.slots[j]).isSome = true) →
                s.judge r = .held .bank))) ∧
          (s.frozen r.bank = false → (s.bankState r.bank).isStuck = false → r.isWrite = false →
            (s.bankState r.bank = .active →
              (s.banks[r.bank].lost = true ∧ s.regs.policy[r.bank].lostCheck = true → s.judge r = .refused .eLost) ∧
              (s.banks[r.bank].lost = false ∨ s.regs.policy[r.bank].lostCheck = false → s.judge r = .forwarded)) ∧
            (s.bankState r.bank ≠ .active → s.judge r = .held .bank)))))

/-- R35: the attributes are those of the lowest-numbered valid entry that contains the line and names the initiator. -/
def Obligations.RegionTableGivesTheFirstMatch : Prop :=
  ∀ (r : Request) (s : State),
    (∀ g : Fin 8,
      ((s.regions[g]).valid = true ∧ (s.regions[g]).base ≤ r.line ∧ r.line ≤ (s.regions[g]).limit ∧
        (s.regions[g]).initiators.getLsbD r.initiator.val = true) →
      (∀ h : Fin 8, h < g → ¬((s.regions[h]).valid = true ∧ (s.regions[h]).base ≤ r.line ∧
        r.line ≤ (s.regions[h]).limit ∧ (s.regions[h]).initiators.getLsbD r.initiator.val = true)) →
      s.attributes r = ⟨(s.regions[g]).absorb, (s.regions[g]).serve⟩) ∧
    ((∀ g : Fin 8, ¬((s.regions[g]).valid = true ∧ (s.regions[g]).base ≤ r.line ∧ r.line ≤ (s.regions[g]).limit ∧
        (s.regions[g]).initiators.getLsbD r.initiator.val = true)) →
      s.attributes r = ⟨false, false⟩)

/-- R3 with R8, R18 and R19: word `i` of a request takes line bytes 4(w + i) to 4(w + i) + 3, lane `j` being byte
4(w + i) + j, in a merge, a serve and an overlay; a merge leaves every byte that no enabled lane reaches. Lane `j` is bits
8j to 8j + 7 of a word: log 17. -/
def Obligations.BytesStandAtTheirAddress : Prop :=
  ∀ (r : Request) (old : Vector (Option Byte) 32) (data : Vector Word 8) (i : Fin 8) (j : Fin 4),
    r.address.toNat % 32 / 4 + r.count ≤ 8 → i.val < r.count →
    (∀ w, r.words[i.val]? = some w →
      byteOf (mergeBytes r old) (4 * (r.address.toNat % 32 / 4 + i) + j) =
        if w.enables.getLsbD j then some (w.data.extractLsb' (8 * j) 8)
        else byteOf old (4 * (r.address.toNat % 32 / 4 + i) + j)) ∧
    (servedWord old r i).extractLsb' (8 * j) 8 = (byteOf old (4 * (r.address.toNat % 32 / 4 + i) + j)).getD 0 ∧
    (overlaidWord old r data i).extractLsb' (8 * j) 8 =
      (byteOf old (4 * (r.address.toNat % 32 / 4 + i) + j)).getD ((data[i]).extractLsb' (8 * j) 8) ∧
    ∀ n : Fin 32, (n.val / 4 < r.address.toNat % 32 / 4 ∨ r.address.toNat % 32 / 4 + r.count ≤ n.val / 4) →
      byteOf (mergeBytes r old) n = byteOf old n

/-! ## The M port -/

/-- R133: a late completion changes the late-completion count and nothing else; the count is readable, not writable (R190),
zero after power-on reset and kept by a warm reset. That COUNTER_HIGH_READ and REG_WRITE carry the register's number is the
model's choice (log 18). -/
def Obligations.LateCompletionOnlyCounts : Prop :=
  ∀ (s : State) (number : BitVec 8) (report : Report) (data : Vector Word 8) (v : BitVec 16),
    (s.port.inFlight.all (fun op => op.number != number) = true →
      exec (.completion number report data) s = .next { s with
        port := { s.port with lateCount := if s.port.lateCount = 255 then 255 else s.port.lateCount + 1 } }) ∧
    (s.awaitRise = false →
      exec (.counterHighRead 0x08) s = .next { s with mgmt := some ⟨1, .done, [0, s.port.lateCount], false⟩ } ∧
      exec (.regWrite 0x08 v) s = .next { s with mgmt := some ⟨3, .refused, [], false⟩ }) ∧
    (∃ t, exec .powerOnReset s = .next t ∧ t.port.lateCount = 0) ∧
    ∃ t, exec .resetnAssertion s = .next t ∧ t.port.lateCount = s.port.lateCount

/-- R66, R126 to R128: the completion of a word operation answers the ISSUED entry, a READ answered OK with memory's words under
the store's valid bytes, and makes no record. R126, R82: the operation has ended, and its bank's idle timer starts afresh. -/
def Obligations.WordCompletionAnswersItsEntry : Prop :=
  ∀ (s : State) (op : InFlight) (k : Nat) (e : Entry) (report : Report) (data : Vector Word 8),
    s.port.inFlight = some op → op.presenter = .entry → s.queue.findIdx? (fun e => e.status == .issued) = some k →
    s.queue[k]? = some e →
    ∃ t, exec (.completion op.number report data) s = .next t ∧
      s.out.responses ++ [⟨e.request.initiator, e.request.tag,
        match report with
        | .ok => .ok
        | .error => .eMemory,
        match report, e.request.access with
        | .ok, .read count => (List.range count).map (overlaidWord (s.store.bytesOfLine e.request.line) e.request data)
        | _, _ => []⟩] <+: t.out.responses ∧
      t.faults = s.faults ∧ t.mode = s.mode ∧ t.store.drainedLines = s.store.drainedLines ∧
      t.port.lateCount = s.port.lateCount ∧ s.OperationEnded t ∧ t.IdleTimerAfresh op.bank

/-- R12, R13, R14, R104, R116, R176: the three ends of a drain write at its completion, and its end when its slot was freed meanwhile. What
no walk can undo is said for every state; what a waiting request may change at the same event is said for an empty queue. R126,
R82: the operation has ended, and its bank's idle timer starts afresh. -/
def Obligations.DrainCompletionFreesRenewsOrRecords : Prop :=
  ∀ (s : State) (op : InFlight) (i : SlotNo) (report : Report) (data : Vector Word 8),
    s.port.inFlight = some op → op.presenter = .slot i →
    (slotIs .draining s.store.slots[i] = false →
      ∃ t, exec (.completion op.number report data) s = .next t ∧ t.faults = s.faults ∧ t.mode = s.mode ∧
        t.store.drainedLines = s.store.drainedLines ∧ (s.queue = [] → t.store.ageList = s.store.ageList) ∧
        s.OperationEnded t ∧ t.IdleTimerAfresh op.bank) ∧
    ∀ l : Line, s.store.slots[i] = some l → l.state = .draining →
    ∃ t, exec (.completion op.number report data) s = .next t ∧ s.OperationEnded t ∧ t.IdleTimerAfresh op.bank ∧
      (report = .ok → l.redirty = true →
        t.store.drainedLines = s.store.drainedLines ∧ t.faults = s.faults ∧ t.mode = s.mode ∧
        s.store.ageList.erase i ++ [i] <+: t.store.ageList ∧
        ∃ l', t.store.slots[i] = some l' ∧ l'.addr = l.addr ∧ l'.allocatedAt = s.clock.msTime ∧ l'.age = 0 ∧ l'.ageRuns = false ∧
          (∀ n : Fin 32, (l.bytes[n]).isSome = true → (l'.bytes[n]).isSome = true) ∧
          (s.queue = [] → l'.bytes = l.bytes ∧ l'.contributors = l.drainContributors)) ∧
      (report = .error ∨ l.redirty = false →
        t.mode = (if s.mode = .recover ∧ s.store.fill = 1 then .normal else s.mode) ∧
        (s.queue = [] → t.store.slots[i] = none ∧ t.store.ageList = s.store.ageList.erase i ∧
          (s.lineCount l.bank = 1 → t.causes[l.bank] = DrainCauses.none))) ∧
      (report = .ok → l.redirty = false →
        t.store.drainedLines = s.store.drainedLines + 1 ∧ t.faults = s.faults) ∧
      (report = .error →
        t.store.drainedLines = s.store.drainedLines ∧
        t.faults = (s.handFault ⟨.drainWriteError, l.bank, some l.addr, some (maskOf l.bytes), some l.contributors,
          none⟩).faults)

/-- R148, R149, R150: a zero-line completion of the clear in progress advances the cursor or, at line 262,143, ends the clear; one of an
abandoned clear makes no record and moves nothing. R126, R82: the operation has ended, and its bank's idle timer starts afresh. -/
def Obligations.ZeroLineCompletionAdvancesTheClear : Prop :=
  ∀ (s : State) (op : InFlight) (b : BankNo) (report : Report) (data : Vector Word 8),
    s.port.inFlight = some op → op.presenter = .clearEngine →
    (s.clear.outstanding = false →
      ∃ t, exec (.completion op.number report data) s = .next t ∧ t.faults = s.faults ∧
        t.irq.clearDone = s.irq.clearDone ∧ s.clear.queue <+: t.clear.queue ∧
        (s.clear.queue ≠ [] → t.clear.cursor = s.clear.cursor ∧ t.clear.incomplete = s.clear.incomplete) ∧
        s.OperationEnded t ∧ t.IdleTimerAfresh op.bank) ∧
    (s.clear.outstanding = true → s.clear.queue.head? = some b → (s.bankState b).isClearing = true →
    ∃ t, exec (.completion op.number report data) s = .next t ∧ s.OperationEnded t ∧ t.IdleTimerAfresh op.bank ∧
      t.faults = (match report with
        | .ok => s.faults
        | .error =>
          (s.handFault ⟨.clearWriteError, b, some (lineInBank b s.clear.cursor.toNat), none, none, none⟩).faults) ∧
      (s.clear.cursor.toNat < 262143 →
        t.clear.cursor = s.clear.cursor + 1 ∧ t.clear.incomplete = (s.clear.incomplete || report == .error) ∧
        s.clear.queue <+: t.clear.queue ∧ t.bankState b = s.bankState b ∧ t.banks[b].lost = s.banks[b].lost ∧
        t.irq.clearDone = s.irq.clearDone) ∧
      (s.clear.cursor.toNat = 262143 →
        t.bankState b = .active ∧
        t.banks[b].lost = ((s.clear.incomplete || report == .error) && s.banks[b].lost) ∧
        t.irq.clearDone = true ∧ s.clear.queue.tail <+: t.clear.queue ∧ t.clear.cursor = 0 ∧
        t.clear.incomplete = false))

/-- R131, R132, R86, R87, R115, R68: the expiry of the access limit makes the bank STUCK, leaves a record, returns a DRAINING slot
to HELD without renewal and answers the ISSUED entry E-BANK. An unfitted bank's record stays as it is (R192). The command is
carried out whatever the count of the access timer (the model's choice: log 8). -/
def Obligations.AccessTimeoutMakesItsBankStuck : Prop :=
  ∀ (s : State) (op : InFlight), s.port.inFlight = some op →
    ∃ t, exec .accessTimeout s = .next t ∧
      t.bankState op.bank =
        (if s.fitted op.bank then .stuck (s.bankState op.bank).stuckOrigin else s.bankState op.bank) ∧
      t.banks[op.bank].request = s.banks[op.bank].request ∧ t.banks[op.bank].lost = s.banks[op.bank].lost ∧
      t.faults = (s.handFault ⟨.accessTimeout, op.bank, some (BitVec.ofNat 21 (op.address.toNat / 32)), none, none,
        none⟩).faults ∧
      (∀ (i : SlotNo) (l : Line), op.presenter = .slot i → s.store.slots[i] = some l → l.state = .draining →
        l.bank = op.bank → s.fitted op.bank = true →
        ∃ l', t.store.slots[i] = some l' ∧ l'.state = .held ∧ l'.addr = l.addr ∧ l'.allocatedAt = l.allocatedAt ∧
          l'.age = l.age ∧ l'.ageRuns = l.ageRuns ∧ ∀ n : Fin 32, (l.bytes[n]).isSome = true → (l'.bytes[n]).isSome = true) ∧
      (∀ (k : Nat) (e : Entry), op.presenter = .entry → op.kind.isWord = true →
        s.queue.findIdx? (fun e => e.status == .issued) = some k → s.queue[k]? = some e → s.atHead k e = true →
        ⟨e.request.initiator, e.request.tag, .eBank, []⟩ ∈ t.out.responses)

/-- R136: the alternation flag decides the contested grant, changes at the grants of row 2 and 3 and at no other, is ENTRY after
either reset, and shows in no report of the management port. R135, Table 6-3: the Arbiter's choice, row by row, and the grant
of it while the port is FREE and RESETn negated. R107, R108: the drain offer and its class; R65, R147: the READY entry and the
zero-line write presented. -/
def Obligations.AlternationFlagTakesTurns : Prop :=
  ∀ s : State,
    (s.mode ≠ .normal → ∀ i cls, s.drainOffer = some (i, cls) ↔
      cls = .urgent ∧ s.FirstInAgeList (s.IsDrainCandidate false) i) ∧
    (s.mode = .normal → ∀ i cls, s.drainOffer = some (i, cls) ↔
      (cls = .drainWanted ∧ s.FirstInAgeList (s.IsDrainCandidate true) i) ∨
        (cls = .drain ∧ (∀ j ∈ s.store.ageList, ¬s.IsDrainCandidate true j) ∧
          s.FirstInAgeList (s.IsDrainCandidate false) i)) ∧
    (∀ k : Nat, s.readyEntry = some k ↔
      (∃ e, s.queue[k]? = some e ∧ e.status = .ready ∧ s.bankState e.request.bank = .active) ∧
        ∀ j < k, ∀ e, s.queue[j]? = some e → ¬(e.status = .ready ∧ s.bankState e.request.bank = .active)) ∧
    (∀ b : BankNo, s.zeroLineOffer = some b ↔
      s.clear.outstanding = false ∧ s.clear.queue.head? = some b ∧ (s.bankState b).isClearing = true) ∧
    (∀ i : SlotNo, s.drainOffer = some (i, .urgent) → s.choice = some (.drain i .urgent)) ∧
    (∀ i : SlotNo, s.drainOffer = some (i, .drainWanted) → s.readyEntry = none →
      s.choice = some (.drain i .drainWanted)) ∧
    (∀ k : Nat, s.readyEntry = some k → (∀ i : SlotNo, s.drainOffer ≠ some (i, .urgent)) →
      (∀ i : SlotNo, s.drainOffer ≠ some (i, .drainWanted)) → s.choice = some (.entry k)) ∧
    (∀ i : SlotNo, s.drainOffer = some (i, .drain) → s.readyEntry = none → s.choice = some (.drain i .drain)) ∧
    (s.drainOffer = none → s.readyEntry = none →
      (∀ b : BankNo, s.zeroLineOffer = some b → s.choice = some (.zeroLine b)) ∧
        (s.zeroLineOffer = none → s.choice = none)) ∧
    (s.pins.resetn = true ∨ s.port.inFlight ≠ none ∨ s.choice = none → s.grant = s) ∧
    (s.pins.resetn = false → s.port.inFlight = none →
      (∀ k : Nat, s.choice = some (.entry k) → s.grant = s.grantEntry k) ∧
        (∀ (i : SlotNo) (cls : DrainClass), s.choice = some (.drain i cls) → s.grant = s.grantDrain i cls) ∧
        ∀ b : BankNo, s.choice = some (.zeroLine b) → s.grant = s.grantZeroLine b) ∧
    (∀ (i : SlotNo) (k : Nat), s.drainOffer = some (i, .drainWanted) → s.readyEntry = some k →
      s.choice = some (match s.port.turn with
        | .entry => .entry k
        | .drain => .drain i .drainWanted)) ∧
    (∀ k : Nat, k < s.queue.length → (s.grantEntry k).port.turn = .drain) ∧
    (∀ i : SlotNo, (s.store.slots[i]).isSome = true →
      (s.grantDrain i .drainWanted).port.turn = .entry ∧ (s.grantDrain i .urgent).port.turn = s.port.turn ∧
        (s.grantDrain i .drain).port.turn = s.port.turn) ∧
    (∀ b : BankNo, (s.grantZeroLine b).port.turn = s.port.turn) ∧
    (∃ t, exec .powerOnReset s = .next t ∧ t.port.turn = .entry) ∧
    (s.pins.resetn = false → ∃ t, exec .resetnAssertion s = .next t ∧ t.port.turn = .entry) ∧
    ∀ flag : Turn, (s.setTurn flag).statusBytes = s.statusBytes ∧
      (∀ r : Register, (s.setTurn flag).registerValue r = s.registerValue r) ∧
      ∀ i : SlotNo, (s.setTurn flag).slotReadBytes i = s.slotReadBytes i

/-! ## The banks -/

/-- R74 to R76, R79 to R81, R88: a change of a fitted bank's status lines, by the bank's state, where it is no unsolicited
change. The bank's state agrees with its lines (an invariant stated above). R60: a settle that takes the bank to ACTIVE is
followed by a release walk. -/
def Obligations.StatusLinesEndTransitions : Prop :=
  ∀ (s : State) (b : BankNo) (level : StatusLevel) (settled : Bool),
    (s.fitted b = false ∨ ((s.bankState b).inTransition = true ∧
        ¬(settled = true ∧ level = s.banks[b].request.status)) ∨ (s.bankState b).isStuck = true →
      ∃ t, exec (.statusLineChange b level settled) s = .next t ∧ t = { s with pins := t.pins, banks := t.banks } ∧
        (∀ c, c ≠ b → t.banks[c] = s.banks[c]) ∧
        t.banks[b] = (if s.fitted b then { s.banks[b] with reported := level, settled := settled } else s.banks[b])) ∧
    (s.fitted b = true → s.bankState b = .waking .retain → s.HandshakeOf b →
      ∃ t, exec (.statusLineChange b .active true) s = .next t ∧ t.banks[b].lost = s.banks[b].lost ∧
        t.banks[b].settleTimer = .stopped ∧ t.banks[b].wakeCount = s.banks[b].wakeCount ∧
        t.bankState b = (if s.clear.wanted[b] then .clearing .retain else .active) ∧ t.faults = s.faults ∧
        ((∀ c : BankNo, s.HandshakeOf c) → s.clear.wanted[b] = false →
          t.QueueIsThatOf (State.releaseWalk { s.drive b .active true with
            banks := updAt s.banks b fun k =>
              { k with state := .active, settleTimer := .stopped, reported := .active, settled := true } }))) ∧
    (s.fitted b = true → s.bankState b = .waking .off → s.HandshakeOf b →
      ∃ t, exec (.statusLineChange b .active true) s = .next t ∧ t.banks[b].lost = true ∧ t.irq.lost = true ∧
        t.banks[b].settleTimer = .stopped ∧ t.banks[b].wakeCount = s.banks[b].wakeCount ∧
        t.bankState b = (if s.regs.policy[b].clearOnWake || s.clear.wanted[b] then .clearing .off else .active) ∧
        t.faults = s.faults ∧
        ((∀ c : BankNo, s.HandshakeOf c) → s.clear.wanted[b] = false → s.regs.policy[b].clearOnWake = false →
          t.QueueIsThatOf (State.releaseWalk { s.drive b .active true with
            banks := updAt s.banks b fun k =>
              { k with state := .active, settleTimer := .stopped, reported := .active, settled := true, lost := true }
            irq := { s.irq with lost := true } }))) ∧
    ∀ o : Rest, s.fitted b = true → s.bankState b = .descending o → s.HandshakeOf b →
      ∃ t, exec (.statusLineChange b o.level.status true) s = .next t ∧ t.faults = s.faults ∧
        t.banks[b].lost = s.banks[b].lost ∧
        (s.banks[b].pendingWake = true ∨ s.wakeDemand b = true →
          t.bankState b = .waking o ∧ t.banks[b].request = .active ∧
            t.banks[b].settleTimer = .running s.regs.settleLimit.toNat 0 ∧
            t.banks[b].wakeCount = satInc s.banks[b].wakeCount) ∧
        (s.banks[b].pendingWake = false → s.wakeDemand b = false → s.pressure = false →
          t.bankState b = o.state ∧ t.banks[b].request = o.level ∧ t.banks[b].settleTimer = .stopped ∧
            t.banks[b].wakeCount = s.banks[b].wakeCount)

/-- R75, R76, R86, R67, R69: a settle limit that expires and an unsolicited change make a fitted bank STUCK with its stuck origin, its
request level and LOST flag kept, its timers stopped, and a record that counts its lines; a change of a settled bank's
lines that changes neither its level nor its settled indication's standing is taken in without effect. Its entries become
FAILED, and each at head but an ISSUED one is answered E-BANK in the walk of the event. The settle timeout is carried out
whatever the count of its timer (the model's choice: log 8). -/
def Obligations.FailuresMakeABankStuck : Prop :=
  ∀ (s : State) (b : BankNo) (level : StatusLevel) (settled : Bool), s.fitted b = true →
    ((s.bankState b).inTransition = true → s.banks[b].settleTimer.isRunning = true →
      ∃ t, exec (.settleTimeout b) s = .next t ∧
        t.banks[b] = { s.banks[b] with
          state := .stuck (s.bankState b).stuckOrigin, pendingWake := false, settleTimer := .stopped
          idleTimer := .stopped, offTimer := .stopped } ∧
        t.faults = (s.handFault ⟨.settleTimeout, b, none, none, none, some (s.lineCount b)⟩).faults ∧
        ∀ (k : Nat) (e : Entry), s.queue[k]? = some e → s.atHead k e = true → e.request.bank = b → e.status ≠ .issued →
          ⟨e.request.initiator, e.request.tag, .eBank, []⟩ ∈ t.out.responses.drop s.out.responses.length) ∧
    ((s.bankState b).inTransition = false → (s.bankState b).isStuck = false →
      (level ≠ s.banks[b].reported ∨ (s.banks[b].settled = true ∧ settled = false)) →
      ∃ t, exec (.statusLineChange b level settled) s = .next t ∧
        t.banks[b] = { s.banks[b] with
          state := .stuck (s.bankState b).stuckOrigin, reported := level, settled := settled, pendingWake := false
          settleTimer := .stopped, idleTimer := .stopped, offTimer := .stopped } ∧
        t.faults = (s.handFault ⟨.unsolicitedChange, b, none, none, none, some (s.lineCount b)⟩).faults ∧
        ∀ (k : Nat) (e : Entry), s.queue[k]? = some e → s.atHead k e = true → e.request.bank = b → e.status ≠ .issued →
          ⟨e.request.initiator, e.request.tag, .eBank, []⟩ ∈ t.out.responses.drop s.out.responses.length) ∧
    ((s.bankState b).inTransition = false → (s.bankState b).isStuck = false → level = s.banks[b].reported →
      (s.banks[b].settled = true → settled = true) →
      ∃ t, exec (.statusLineChange b level settled) s = .next t ∧ t = { s with pins := t.pins, banks := t.banks } ∧
        (∀ c, c ≠ b → t.banks[c] = s.banks[c]) ∧ t.banks[b] = { s.banks[b] with settled := settled })

/-- R83, R84: at the expiry of its idle timer an ACTIVE bank descends toward RETAIN, at that of its off timer a RETAIN bank descends
toward OFF, with its settle timer started with SETTLE LIMIT and its LOST flag kept. R100, R105, R78: an age-expiry event adds
the AGE cause, and a flag that it sets wakes a RETAIN bank. R197: a timer that does not run does not expire, and an
indication that is false gives no event. An expiry is carried out whatever the count of its timer (the model's choice:
log 8). -/
def Obligations.ExpiriesLowerOrFlagTheBank : Prop :=
  ∀ (s : State) (b : BankNo),
    (s.bankState b = .active → s.banks[b].idleTimer.isRunning = true →
      s.HandshakeOf b →
      ∃ t, exec (.idleTimerExpiry b) s = .next t ∧ t.bankState b = .descending .retain ∧ t.banks[b].request = .retain ∧
        t.banks[b].settleTimer = .running s.regs.settleLimit.toNat 0 ∧ t.banks[b].idleTimer = .stopped ∧
        t.banks[b].lost = s.banks[b].lost ∧ t.banks[b].wakeCount = s.banks[b].wakeCount) ∧
    (s.bankState b = .retain → s.banks[b].offTimer.isRunning = true →
      s.HandshakeOf b →
      ∃ t, exec (.offTimerExpiry b) s = .next t ∧ t.bankState b = .descending .off ∧ t.banks[b].request = .off ∧
        t.banks[b].settleTimer = .running s.regs.settleLimit.toNat 0 ∧ t.banks[b].offTimer = .stopped ∧
        t.banks[b].lost = s.banks[b].lost ∧ t.banks[b].wakeCount = s.banks[b].wakeCount) ∧
    (s.ageExpired b = true →
      ∃ t, exec (.ageExpiry b) s = .next t ∧ (t.causes[b]).age = true ∧
        (s.fitted b = true → s.bankState b = .retain → s.drainWanted b = false → s.HandshakeOf b →
          t.bankState b = .waking .retain ∧ t.banks[b].request = .active ∧
            t.banks[b].wakeCount = satInc s.banks[b].wakeCount)) ∧
    (s.port.inFlight = none → exec .accessTimeout s = .next s) ∧
    (s.banks[b].settleTimer.isRunning = false → exec (.settleTimeout b) s = .next s) ∧
    (s.banks[b].idleTimer.isRunning = false → exec (.idleTimerExpiry b) s = .next s) ∧
    (s.banks[b].offTimer.isRunning = false → exec (.offTimerExpiry b) s = .next s) ∧
    (s.ageExpired b = false → exec (.ageExpiry b) s = .next s)

/-! ## The Fault Log -/

/-- R156, R157, R158: a fault joins the tail with the next sequence number and the millisecond time, or, in a full log, is
dropped and counted; in either case its bank's hold is set. -/
def Obligations.FaultsJoinTheLogOrAreCounted : Prop :=
  ∀ (s : State) (f : FaultReport),
    s.handFault f = { s with faults := (s.handFault f).faults } ∧
    (∀ b : BankNo, (s.handFault f).faults.hold[b] = (b == f.bank || s.faults.hold[b])) ∧
    (s.faults.records.length < 8 →
      (s.handFault f).faults.records = s.faults.records ++ [⟨s.faults.nextSeq, s.clock.msTime, f⟩] ∧
      (s.handFault f).faults.nextSeq = s.faults.nextSeq + 1 ∧ (s.handFault f).faults.overflow = s.faults.overflow ∧
      (s.handFault f).faults.unlogged = s.faults.unlogged) ∧
    (8 ≤ s.faults.records.length →
      (s.handFault f).faults.records = s.faults.records ∧ (s.handFault f).faults.nextSeq = s.faults.nextSeq ∧
      (s.handFault f).faults.overflow = (if s.faults.overflow = 255 then 255 else s.faults.overflow + 1) ∧
      ∀ b : BankNo, (s.handFault f).faults.unlogged[b] = (b == f.bank || s.faults.unlogged[b]))

/-- R164: FAULT PEEK reports the head record, which is the one a following FAULT POP would return and mark, or EMPTY, and changes
no state; what joins the log afterwards does not alter the captured result. -/
def Obligations.FaultPeekReportsTheHead : Prop :=
  ∀ s : State, s.awaitRise = false →
    (s.faults.records = [] → exec .faultPeek s = .next { s with mgmt := some ⟨0, .empty, [], false⟩ }) ∧
    ∀ (r : FaultRecord) (rest : List FaultRecord), s.faults.records = r :: rest →
      ∃ t, exec .faultPeek s = .next t ∧ t = { s with mgmt := some ⟨0, .done, r.bytes, false⟩ } ∧
        r.bytes =
          bytesOf 2 r.seq.toNat ++ [BitVec.ofNat 8 r.report.kind.code, BitVec.ofNat 8 r.report.bank.val] ++
          bytesOf 2 r.timestamp.toNat ++
          [BitVec.ofNat 8 (r.report.line.isSome.toNat + 2 * r.report.mask.isSome.toNat +
            4 * r.report.contributors.isSome.toNat + 8 * r.report.count.isSome.toNat)] ++
          bytesOf 3 ((r.report.line.map BitVec.toNat).getD 0) ++
          bytesOf 4 ((r.report.mask.map fun m => flagsValue m.toList).getD 0) ++
          [r.report.contributors.getD 0, BitVec.ofNat 8 (r.report.count.getD 0)] ∧
        (∀ f : FaultReport, (t.handFault f).mgmt = t.mgmt) ∧
        exec .faultPop t = .next { s with mgmt := some ⟨0, .done, r.bytes, true⟩ }

/-- R165, R166, R159: FAULT POP marks the head record, and the end of its frame removes it when all 16 result bytes have been shifted
out, its bank's hold with it when no other record names the bank and the bank carries no mark; a frame broken earlier, or
one of another command, removes nothing. A hold that clears is followed by a release walk (R60). The rise of MCS also ends the
wait for it after a power-on reset (R189; log 28). -/
def Obligations.FaultPopRemovesAtTheFramesEnd : Prop :=
  ∀ (s : State) (shifted : Nat),
    (s.awaitRise = false → s.faults.records = [] →
      exec .faultPop s = .next { s with mgmt := some ⟨0, .empty, [], false⟩ }) ∧
    (∀ (r : FaultRecord) (rest : List FaultRecord), s.awaitRise = false → s.faults.records = r :: rest →
      exec .faultPop s = .next { s with mgmt := some ⟨0, .done, r.bytes, true⟩ }) ∧
    (∀ f : Frame, s.mgmt = some f → f.popMarked = false ∨ shifted < 16 →
      exec (.faultPopRemoval shifted) s = .next { s with
        mgmt := none, awaitRise := false, pins := { s.pins with mcsLow := false } }) ∧
    (s.mgmt = none → exec (.faultPopRemoval shifted) s = .next { s with
      awaitRise := false, pins := { s.pins with mcsLow := false } }) ∧
    ∀ (f : Frame) (r : FaultRecord) (rest : List FaultRecord), s.mgmt = some f → f.popMarked = true → 16 ≤ shifted →
      s.faults.records = r :: rest →
      ∃ t, exec (.faultPopRemoval shifted) s = .next t ∧ t.mgmt = none ∧ t.awaitRise = false ∧
        t.pins = { s.pins with mcsLow := false } ∧ t.faults.records = rest ∧
        t.faults.nextSeq = s.faults.nextSeq ∧ t.faults.overflow = s.faults.overflow ∧
        t.faults.unlogged = s.faults.unlogged ∧
        (∀ b : BankNo, t.faults.hold[b] =
          (if b = r.report.bank then
            s.faults.hold[b] && (rest.any (fun r => r.report.bank == b) || s.faults.unlogged[b])
          else s.faults.hold[b])) ∧
        ((∃ b : BankNo, s.faults.hold[b] = true ∧ t.faults.hold[b] = false) → (∀ b : BankNo, s.HandshakeOf b) →
          t.QueueIsThatOf (State.releaseWalk { s with mgmt := none, faults := t.faults }))

/-- R167: CLEAR UNLOGGED clears the mark, then the overflow count if no mark is left, then the hold if no record names the
bank. A hold that clears is followed by a release walk (R60). -/
def Obligations.ClearUnloggedClearsMarkCountAndHold : Prop :=
  ∀ (s : State) (bank : Byte), s.awaitRise = false →
    (8 ≤ bank.toNat → exec (.clearUnlogged bank) s = .next { s with mgmt := some ⟨1, .badarg, [], false⟩ }) ∧
    ∀ b : BankNo, bank.toNat = b.val →
      ∃ t, exec (.clearUnlogged bank) s = .next t ∧ t.mgmt = some ⟨1, .done, [], false⟩ ∧
        t.faults.records = s.faults.records ∧ t.faults.nextSeq = s.faults.nextSeq ∧
        (∀ c : BankNo, t.faults.unlogged[c] = (c != b && s.faults.unlogged[c])) ∧
        t.faults.overflow =
          (if (∃ c : BankNo, c ≠ b ∧ s.faults.unlogged[c] = true) then s.faults.overflow else 0) ∧
        (∀ c : BankNo, t.faults.hold[c] =
          (if c = b then s.faults.hold[c] && s.recordNames c else s.faults.hold[c])) ∧
        (s.faults.hold[b] = true → t.faults.hold[b] = false → (∀ b : BankNo, s.HandshakeOf b) →
          t.QueueIsThatOf (State.releaseWalk { s with faults := t.faults }))

/-! ## The level inputs -/

/-- R174, R175, R103, R105, R181: SUPWARN asserted takes the part to WARN, gives every bank with lines the WARN cause, wakes a RETAIN bank
that it flags, and asserts and latches SAFE for an empty store; SUPWARN negated leads to NORMAL or RECOVER by the store and
negates SAFE. A change to the level that already stands has no effect (log 7). -/
def Obligations.SupplyWarningSetsTheMode : Prop :=
  ∀ s : State,
    (s.pins.supwarn = true → exec .supwarnAssertion s = .next s) ∧
    (s.pins.supwarn = false → exec .supwarnNegation s = .next s) ∧
    (s.pins.supwarn = false → s.mode ≠ .warn →
      ∃ t, exec .supwarnAssertion s = .next t ∧ t.mode = .warn ∧ t.pins = { s.pins with supwarn := true } ∧
        (∀ b : BankNo, s.lineCount b ≠ 0 → (t.causes[b]).warn = true) ∧
        (∀ b : BankNo, s.lineCount b = 0 → t.causes[b] = s.causes[b]) ∧
        (∀ b : BankNo, s.lineCount b ≠ 0 → s.fitted b = true → s.bankState b = .retain → s.drainWanted b = false →
          s.HandshakeOf b →
          t.bankState b = .waking .retain ∧ t.banks[b].wakeCount = satInc s.banks[b].wakeCount) ∧
        (s.store.fill = 0 → s.drainWriteInFlight = false → t.irq.safe = true ∧ t.safe = true) ∧
        (s.store.fill ≠ 0 ∨ s.drainWriteInFlight = true → t.safe = false ∧ t.irq.safe = s.irq.safe)) ∧
    (s.pins.supwarn = true → s.mode = .warn →
      ∃ t, exec .supwarnNegation s = .next t ∧ t.mode = (if s.store.fill = 0 then .normal else .recover) ∧
        t.pins = { s.pins with supwarn := false } ∧ t.safe = false ∧ t.irq.safe = s.irq.safe ∧
        ∀ b : BankNo, (s.causes[b]).warn = true → (t.causes[b]).warn = true)

/-- R160: with FLTPASS asserted no bank is frozen; with FLTPASS negated every bank under a fault hold is, and no entry of such a bank
stays READY. Neither touches the log. R60: each change is followed by a release walk, at a negation after the READY entries of
the frozen banks have been re-evaluated (R49). That the walk of a negation re-evaluates WAITING entries follows R60 and R160,
not R50 (the model's choice: log 30). A change to the level that already stands has no effect (log 7). -/
def Obligations.FltpassFreezesHeldBanks : Prop :=
  ∀ s : State,
    (s.pins.fltpass = true → exec .fltpassAssertion s = .next s) ∧
    (s.pins.fltpass = false → exec .fltpassNegation s = .next s) ∧
    (s.pins.fltpass = false →
      ∃ t, exec .fltpassAssertion s = .next t ∧ t.pins = { s.pins with fltpass := true } ∧
        t.faults = s.faults ∧ (∀ b : BankNo, t.frozen b = false) ∧
        ((∀ b : BankNo, s.HandshakeOf b) → t.QueueIsThatOf (s.driveFltpass true).releaseWalk)) ∧
    (s.pins.fltpass = true →
      ∃ t, exec .fltpassNegation s = .next t ∧ t.pins = { s.pins with fltpass := false } ∧ t.faults = s.faults ∧
        (∀ b : BankNo, t.frozen b = s.faults.hold[b]) ∧
        (∀ e ∈ t.queue, e.status = .ready → t.frozen e.request.bank = false) ∧
        ((∀ b : BankNo, s.HandshakeOf b) →
          t.QueueIsThatOf (State.freezeReevaluation s (s.driveFltpass false)).releaseWalk))

/-- R71, R139, R27, R153, R97, R199: the assertion of RESETn discards every entry unanswered, abandons the operation in flight and the clears,
returns a DRAINING slot to HELD, keeps the other state of the store, the log and the banks, and takes the RESET RECORD. A bank keeps
its state, request level, LOST flag, pending wake, wake count and causes, but where the event itself brings an age expiry or a
pressure choice that adds a cause (R100, R101, R120). R97, R134: at its negation the grants and the idle and off timers resume,
and the configuration and the log are as they were. R202: a completion that the assertion falls together with leaves the port
FREE, so that the assertion abandons nothing (log 29). -/
def Obligations.WarmResetKeepsTheStore : Prop :=
  ∀ s : State,
    (s.pins.resetn = true → exec .resetnAssertion s = .next s) ∧
    (s.pins.resetn = false →
      ∃ t, exec .resetnAssertion s = .next t ∧ t.pins = { s.pins with resetn := true } ∧ t.queue = [] ∧
        t.out = s.out ∧ t.port = ⟨none, s.port.opNumber, .entry, s.port.lateCount⟩ ∧
        (∀ i : SlotNo, t.store.slots[i] = (s.store.slots[i]).map fun l =>
          if l.state = .draining then { l with state := .held, drainContributors := 0, redirty := false } else l) ∧
        t.store = { s.store with slots := t.store.slots } ∧
        t.regs = { s.regs with
          resetCount := if s.regs.resetCount = 255 then 255 else s.regs.resetCount + 1
          linesAtReset := BitVec.ofNat 8 s.store.fill } ∧
        t.regions = s.regions ∧ t.faults = s.faults ∧ t.mode = s.mode ∧ t.clock = s.clock ∧ t.mgmt = s.mgmt ∧
        t.irq.clearDone = s.irq.clearDone ∧
        (s.SleepersHoldNoLines → t.clear = ClearEngine.reset) ∧
        (∀ b : BankNo, (s.bankState b).isClearing = true →
          t.bankState b = .active ∧ t.banks[b].lost = s.banks[b].lost) ∧
        (∀ b : BankNo, (s.bankState b).inTransition = true →
          t.bankState b = s.bankState b ∧ t.banks[b].settleTimer = .running s.regs.settleLimit.toNat 0) ∧
        (∀ b : BankNo, (s.bankState b).isStuck = true ∨ s.bankState b = .active → t.bankState b = s.bankState b) ∧
        (∀ b : BankNo, t.banks[b].reported = s.banks[b].reported ∧ t.banks[b].settled = s.banks[b].settled ∧
          (s.banks[b].lost = true → t.banks[b].lost = true)) ∧
        (∀ b : BankNo, t.causes[b] = s.causes[b] →
          ((s.bankState b).isClearing = false → t.bankState b = s.bankState b) ∧
            t.banks[b].request = s.banks[b].request ∧ t.banks[b].lost = s.banks[b].lost ∧
            t.banks[b].pendingWake = s.banks[b].pendingWake ∧ t.banks[b].wakeCount = s.banks[b].wakeCount) ∧
        (∀ b : BankNo, ((s.causes[b]).age = true → (t.causes[b]).age = true) ∧
          ((s.causes[b]).pressure = true → (t.causes[b]).pressure = true) ∧
          (t.causes[b]).flush = (s.causes[b]).flush ∧ (t.causes[b]).warn = (s.causes[b]).warn) ∧
        ((∀ b : BankNo, State.ageExpired { s with store := s.store.returnAllHeld } b = true → s.ageExpired b = true) →
          s.pressure = false ∨ s.hasPressureBank = true → ∀ b : BankNo, t.causes[b] = s.causes[b]) ∧
        ∀ b : BankNo, t.banks[b].idleTimer = .stopped ∧ t.banks[b].offTimer = .stopped) ∧
    (∀ (op : InFlight) (report : Report) (data : Vector Word 8), s.pins.resetn = false →
      s.pending.head? = some .resetnAssertion → s.port.inFlight = some op →
      ∃ t, exec (.completion op.number report data) s = .next t ∧ t.port.inFlight = none ∧ t.out.issued = s.out.issued ∧
        t.port.opNumber = s.port.opNumber ∧ t.pending = s.pending) ∧
    (s.pins.resetn = false → exec .resetnNegation s = .next s) ∧
    (s.pins.resetn = true →
      ∃ t, exec .resetnNegation s = .next t ∧ t.pins = { s.pins with resetn := false } ∧ t.regs = s.regs ∧
        t.regions = s.regions ∧ t.faults = s.faults ∧ t.mode = s.mode ∧ t.clock = s.clock ∧ t.mgmt = s.mgmt ∧
        t.store.ageList = s.store.ageList ∧ t.out.responses = s.out.responses ∧
        (t.port.inFlight = none → t.choice = none) ∧
        ∀ b : BankNo, t.banks[b].idleTimer.isRunning = t.idleConditions b ∧
          t.banks[b].offTimer.isRunning = t.offConditions b)

/-! ## The management port: reports -/

/-- R188, R25, R200: a frame that names no command gets BADARG; STATUS and SLOT READ return their result bytes as Tables 10-7 and
10-9 to 10-11 lay them out; none of the three changes anything but the frame. R187: a frame whose command is not complete does
nothing but hold MCS low. That INVALID_COMMAND carries such frames too, and the model's fault for the frame of another row, are
the model's choice (log 6, log 19). -/
def Obligations.ReportsChangeOnlyTheFrame : Prop :=
  ∀ (s : State) (frame : List Byte) (slot : Byte),
    (s.awaitRise = false → namesNoCommand frame = true →
      exec (.invalidCommand frame) s = .next { s with mgmt := some ⟨frame.length - 1, .badarg, [], false⟩ }) ∧
    (s.awaitRise = false → namesNoCommand frame = false → decodeFrame frame = none →
      exec (.invalidCommand frame) s = .next { s with mgmt := none, pins := { s.pins with mcsLow := true } }) ∧
    (namesNoCommand frame = false → decodeFrame frame ≠ none →
      exec (.invalidCommand frame) s = .fault .cannotBePresented) ∧
    (s.awaitRise = false → ∃ bytes : List Byte, exec .status s = .next { s with mgmt := some ⟨0, .done, bytes, false⟩ } ∧
      bytes.length = 55 ∧
      bytes[0]? = some (BitVec.ofNat 8 ((match s.mode with
        | .normal => 0
        | .warn => 1
        | .recover => 2) + 4 * s.safe.toNat + 8 * s.port.inFlight.isSome.toNat + 16 * s.pins.resetn.toNat)) ∧
      (∀ op, s.port.inFlight = some op → bytes[1]? = some (BitVec.ofNat 8 (op.bank.val + 16 * (match op.kind with
        | .wordRead => 0
        | .wordWrite => 1
        | .lineWrite => 2
        | .zeroLine => 3)))) ∧
      (bytes.drop 6).take 2 = bytesOf 2 ((s.faults.records.head?.map FaultRecord.seq).getD s.faults.nextSeq).toNat ∧
      (∃ holds marks : Byte, bytes[8]? = some holds ∧ bytes[9]? = some marks ∧
        ∀ b : BankNo, holds.getLsbD b.val = s.faults.hold[b] ∧ marks.getLsbD b.val = s.faults.unlogged[b]) ∧
      (∀ b : BankNo, (s.clear.queue = [] ∨ s.clear.queue.head? = some b) →
        bytes[10]? = some (BitVec.ofNat 8 (s.clear.queue.length + 16 * s.clear.incomplete.toNat +
          32 * (if s.clear.queue = [] then 0 else b.val)))) ∧
      (bytes.drop 11).take 3 = bytesOf 3 s.clear.cursor.toNat ∧
      bytes[14]? = some (BitVec.ofNat 8 (s.pins.fltpass.toNat + 2 * s.pins.supwarn.toNat)) ∧
      (∀ b : BankNo,
        bytes[15 + 5 * b.val]? = some (BitVec.ofNat 8 ((match s.bankState b with
          | .off => 0
          | .retain => 1
          | .active => 2
          | .waking .retain => 3
          | .waking .off => 3 + 8
          | .descending .retain => 4
          | .descending .off => 4 + 8
          | .clearing .retain => 5
          | .clearing .off => 5 + 8
          | .stuck .retain => 6
          | .stuck .off => 6 + 8) + 16 * s.banks[b].lost.toNat + 32 * s.banks[b].pendingWake.toNat +
          64 * (s.clear.wanted[b]).toNat + 128 * (s.fitted b).toNat)) ∧
        bytes[16 + 5 * b.val]? = some (BitVec.ofNat 8 ((match s.banks[b].request with
          | .off => 0
          | .retain => 1
          | .active => 2) + 4 * (match s.banks[b].reported with
          | .off => 0
          | .retain => 1
          | .active => 2
          | .fourth => 3) + 16 * s.banks[b].settled.toNat)) ∧
        bytes[17 + 5 * b.val]? = some (BitVec.ofNat 8 ((s.causes[b]).age.toNat + 2 * (s.causes[b]).pressure.toNat +
          4 * (s.causes[b]).flush.toNat + 8 * (s.causes[b]).warn.toNat))) ∧
      bytes[2]? = some (BitVec.ofNat 8 s.store.fill) ∧
      bytes[3]? = some (BitVec.ofNat 8 s.queue.length) ∧ bytes[4]? = some (BitVec.ofNat 8 s.faults.records.length) ∧
      bytes[5]? = some s.faults.overflow ∧
      ∀ b : BankNo, bytes[18 + 5 * b.val]? = some (BitVec.ofNat 8 (s.lineCount b)) ∧
        bytes[19 + 5 * b.val]? = some (BitVec.ofNat 8 (s.entryCount b))) ∧
    (s.awaitRise = false → 32 ≤ slot.toNat → exec (.slotRead slot) s = .next { s with mgmt := some ⟨1, .badarg, [], false⟩ }) ∧
    ∀ i : SlotNo, s.awaitRise = false → slot.toNat = i.val →
      ∃ bytes : List Byte, exec (.slotRead slot) s = .next { s with mgmt := some ⟨1, .done, bytes, false⟩ } ∧
        bytes.length = 47 ∧
        (s.store.slots[i] = none → bytes = List.replicate 46 0 ++ [0xFF]) ∧
        ∀ l, s.store.slots[i] = some l →
          bytes[0]? = some (BitVec.ofNat 8 ((if l.state = .held then 1 else 2) + 4 * l.redirty.toNat)) ∧
          (bytes.drop 1).take 3 = bytesOf 3 l.addr.toNat ∧
          (∃ mask : BitVec 32, (bytes.drop 4).take 4 = bytesOf 4 mask.toNat ∧
            ∀ n : Fin 32, mask.getLsbD n.val = (l.bytes[n]).isSome) ∧
          (bytes.drop 40).take 2 = bytesOf 2 l.allocatedAt.toNat ∧ (bytes.drop 42).take 2 = bytesOf 2 l.age.toNat ∧
          (∀ n : Fin 32, bytes[8 + n.val]? = some ((l.bytes[n]).getD 0)) ∧ bytes[44]? = some l.contributors ∧
          bytes[45]? = some l.drainContributors ∧
          bytes[46]? = some (BitVec.ofNat 8 (s.store.ageList.idxOf i))

/-- R38: REGION READ returns the fields of an entry as Table 10-8 lays them out, or BADARG, and changes no state. -/
def Obligations.RegionReadReturnsTheEntry : Prop :=
  ∀ (s : State) (entry : Byte), s.awaitRise = false →
    (8 ≤ entry.toNat → exec (.regionRead entry) s = .next { s with mgmt := some ⟨1, .badarg, [], false⟩ }) ∧
    ∀ g : Fin 8, entry.toNat = g.val →
      exec (.regionRead entry) s = .next { s with
        mgmt := some ⟨1, .done,
          [BitVec.ofNat 8 ((s.regions[g]).valid.toNat + 2 * (s.regions[g]).absorb.toNat +
            4 * (s.regions[g]).serve.toNat)] ++ bytesOf 3 (s.regions[g]).base.toNat ++
          bytesOf 3 (s.regions[g]).limit.toNat ++ [(s.regions[g]).initiators], false⟩ }

/-- R37: REGION WRITE replaces one entry as a whole, or gets BADARG and changes nothing. R60: the write is followed by a
release walk. -/
def Obligations.RegionWriteReplacesOneEntry : Prop :=
  ∀ (s : State) (entry flags : Byte) (base limit : BitVec 24) (initiators : Byte), s.awaitRise = false →
    (8 ≤ entry.toNat ∨ 2097152 ≤ base.toNat ∨ 2097152 ≤ limit.toNat ∨ limit.toNat < base.toNat →
      exec (.regionWrite entry flags base limit initiators) s =
        .next { s with mgmt := some ⟨9, .badarg, [], false⟩ }) ∧
    ∀ g : Fin 8, entry.toNat = g.val → limit.toNat < 2097152 → base.toNat ≤ limit.toNat →
      ∃ t, exec (.regionWrite entry flags base limit initiators) s = .next t ∧
        t.mgmt = some ⟨9, .done, [], false⟩ ∧ (∀ h : Fin 8, h ≠ g → t.regions[h] = s.regions[h]) ∧
        (t.regions[g]).valid = flags.getLsbD 0 ∧ (t.regions[g]).absorb = flags.getLsbD 1 ∧
        (t.regions[g]).serve = flags.getLsbD 2 ∧ (t.regions[g]).base.toNat = base.toNat ∧
        (t.regions[g]).limit.toNat = limit.toNat ∧ (t.regions[g]).initiators = initiators ∧
        ((∀ b : BankNo, s.HandshakeOf b) → t.QueueIsThatOf (State.releaseWalk { s with regions := t.regions }))

/-! ## The management port: registers -/

/-- R190, R195: a read of a counter's high register captures its low half, the low register returns the captured half, no other read
changes anything but the frame, and a number outside Table 10-5 gets BADARG. R190, R193: REG WRITE of SETTLE LIMIT and ACCESS LIMIT,
of the read-only registers, and of a number outside Table 10-5. R191, R193, R194: the values that CONFIG, the limits and the
policy registers read as. That COUNTER_HIGH_READ carries any register number is the model's choice (log 18). -/
def Obligations.RegisterReadsAndWritesAreChecked : Prop :=
  ∀ (s : State) (number : Byte) (v : BitVec 16), s.awaitRise = false →
    exec (.counterHighRead 0x00) s = .next { s with
      mgmt := some ⟨1, .done, [s.regs.tickDiv.setWidth 8, s.regs.banksFitted.setWidth 8], false⟩ } ∧
    exec (.counterHighRead 0x01) s = .next { s with mgmt := some ⟨1, .done, [0, s.regs.hwm.setWidth 8], false⟩ } ∧
    exec (.counterHighRead 0x02) s = .next { s with mgmt := some ⟨1, .done, bytesOf 2 s.regs.ageLimit.toNat, false⟩ } ∧
    exec (.counterHighRead 0x03) s = .next { s with mgmt := some ⟨1, .done, [0, s.regs.settleLimit], false⟩ } ∧
    exec (.counterHighRead 0x04) s = .next { s with mgmt := some ⟨1, .done, [0, s.regs.accessLimit], false⟩ } ∧
    (∀ b : BankNo, number.toNat = 0x10 + b.val →
      exec (.counterHighRead number) s = .next { s with
        mgmt := some ⟨1, .done, bytesOf 2 ((s.regs.policy[b]).retainDelay.toNat +
          4096 * (s.regs.policy[b]).offAllowed.toNat + 8192 * (s.regs.policy[b]).clearOnWake.toNat +
          16384 * (s.regs.policy[b]).lostCheck.toNat), false⟩ }) ∧
    (∀ b : BankNo, number.toNat = 0x18 + b.val →
      exec (.counterHighRead number) s = .next { s with
        mgmt := some ⟨1, .done, bytesOf 2 (s.regs.policy[b]).offDelay.toNat, false⟩ }) ∧
    exec (.counterHighRead 0x09) s = .next { s with
      regs := { s.regs with absorbedLow := s.store.absorbedWrites.extractLsb' 0 16 }
      mgmt := some ⟨1, .done, bytesOf 2 (s.store.absorbedWrites.toNat / 65536), false⟩ } ∧
    exec (.counterHighRead 0x0A) s = .next { s with mgmt := some ⟨1, .done, bytesOf 2 s.regs.absorbedLow.toNat, false⟩ } ∧
    exec (.counterHighRead 0x0B) s = .next { s with
      regs := { s.regs with servedLow := s.store.servedReads.extractLsb' 0 16 }
      mgmt := some ⟨1, .done, bytesOf 2 (s.store.servedReads.toNat / 65536), false⟩ } ∧
    exec (.counterHighRead 0x0C) s = .next { s with mgmt := some ⟨1, .done, bytesOf 2 s.regs.servedLow.toNat, false⟩ } ∧
    exec (.counterHighRead 0x0D) s = .next { s with
      regs := { s.regs with drainedLow := s.store.drainedLines.extractLsb' 0 16 }
      mgmt := some ⟨1, .done, bytesOf 2 (s.store.drainedLines.toNat / 65536), false⟩ } ∧
    exec (.counterHighRead 0x0E) s = .next { s with mgmt := some ⟨1, .done, bytesOf 2 s.regs.drainedLow.toNat, false⟩ } ∧
    exec (.counterHighRead 0x0F) s = .next { s with mgmt := some ⟨1, .done, bytesOf 2 s.clock.msTime.toNat, false⟩ } ∧
    (∀ b : BankNo, number.toNat = 0x20 + b.val →
      exec (.counterHighRead number) s = .next { s with
        mgmt := some ⟨1, .done, bytesOf 2 s.banks[b].wakeCount.toNat, false⟩ }) ∧
    (number.toNat < 0x28 → number.toNat ≠ 0x09 → number.toNat ≠ 0x0B → number.toNat ≠ 0x0D →
      ∃ t, exec (.counterHighRead number) s = .next t ∧ t = { s with mgmt := t.mgmt }) ∧
    (0x28 ≤ number.toNat → exec (.counterHighRead number) s = .next { s with mgmt := some ⟨1, .badarg, [], false⟩ }) ∧
    (1 ≤ v.toNat ∧ v.toNat ≤ 255 →
      exec (.regWrite 0x03 v) s = .next { s with
        regs := { s.regs with settleLimit := v.extractLsb' 0 8 }, mgmt := some ⟨3, .done, [], false⟩ } ∧
      exec (.regWrite 0x04 v) s = .next { s with
        regs := { s.regs with accessLimit := v.extractLsb' 0 8 }, mgmt := some ⟨3, .done, [], false⟩ }) ∧
    (v.toNat = 0 ∨ 256 ≤ v.toNat →
      exec (.regWrite 0x03 v) s = .next { s with mgmt := some ⟨3, .badarg, [], false⟩ } ∧
      exec (.regWrite 0x04 v) s = .next { s with mgmt := some ⟨3, .badarg, [], false⟩ }) ∧
    ((0x08 ≤ number.toNat ∧ number.toNat ≤ 0x0F) ∨ (0x20 ≤ number.toNat ∧ number.toNat ≤ 0x27) →
      exec (.regWrite number v) s = .next { s with mgmt := some ⟨3, .refused, [], false⟩ }) ∧
    (0x28 ≤ number.toNat → exec (.regWrite number v) s = .next { s with mgmt := some ⟨3, .badarg, [], false⟩ })

/-- R191, R198, R98: CONFIG is checked for its range; with BANKS FITTED unchanged it sets TICK DIV and the divider counts from the write;
a change of BANKS FITTED is refused unless every bank is OFF and the store and the queue are empty, and then gives each newly
fitted bank its power-on values with its status lines read. The causes stay as they are where no bank without lines has one (R99,
an invariant stated above). -/
def Obligations.ConfigWriteRefitsOnlyARestingPart : Prop :=
  ∀ (s : State) (v : BitVec 16), s.awaitRise = false →
    (v.toNat % 256 = 0 ∨ 8 < v.toNat % 256 ∨ v.toNat / 256 = 0 ∨ 64 < v.toNat / 256 →
      exec (.configWrite v) s = .next { s with mgmt := some ⟨3, .badarg, [], false⟩ }) ∧
    (1 ≤ v.toNat % 256 → v.toNat % 256 ≤ 8 → 1 ≤ v.toNat / 256 → v.toNat / 256 ≤ 64 →
      (v.toNat % 256 = s.regs.banksFitted.toNat →
        exec (.configWrite v) s = .next { s with
          regs := { s.regs with tickDiv := BitVec.ofNat 7 (v.toNat / 256) }
          clock := { s.clock with divider := 0 }
          mgmt := some ⟨3, .done, [], false⟩ }) ∧
      (v.toNat % 256 ≠ s.regs.banksFitted.toNat →
        ((∃ b : BankNo, s.bankState b ≠ .off) ∨ s.store.fill ≠ 0 ∨ s.queue ≠ [] →
          exec (.configWrite v) s = .next { s with mgmt := some ⟨3, .refused, [], false⟩ }) ∧
        ((∀ b : BankNo, s.bankState b = .off) → s.store.fill = 0 → s.queue = [] →
          ∃ t, exec (.configWrite v) s = .next t ∧ t.mgmt = some ⟨3, .done, [], false⟩ ∧
            t.regs = { s.regs with
              banksFitted := BitVec.ofNat 4 (v.toNat % 256), tickDiv := BitVec.ofNat 7 (v.toNat / 256) } ∧
            t.clock = { s.clock with divider := 0 } ∧ t.regions = s.regions ∧ (s.FlagsHaveLines → t.causes = s.causes) ∧
            (∀ b : BankNo, s.regs.banksFitted.toNat ≤ b.val ∧ b.val < v.toNat % 256 →
              t.banks[b] = { BankRecord.reset with
                state := if s.pins.pset[b] && s.pins.pstat[b] == .off then .off else .stuck .off
                reported := s.pins.pstat[b]
                settled := s.pins.pset[b] } ∧
              t.faults.hold[b] = (!(s.pins.pset[b] && s.pins.pstat[b] == .off) || s.faults.hold[b])) ∧
            ∀ b : BankNo, b.val < s.regs.banksFitted.toNat ∨ v.toNat % 256 ≤ b.val →
              t.banks[b] = { s.banks[b] with idleTimer := .stopped, offTimer := .stopped } ∧
              t.faults.hold[b] = s.faults.hold[b])))

/-- R193, R21, R22, R101: HWM and AGE LIMIT apply at the write: a pressure choice is made if it is due, and
it takes the bank of the first entry of the age list whose bank is not STUCK, and an age-expired indication that
the new limit makes true adds the AGE cause. -/
def Obligations.StoreLimitsApplyAtTheWrite : Prop :=
  ∀ (s : State) (v : BitVec 16), s.awaitRise = false →
    (v.toNat = 0 ∨ 32 < v.toNat → exec (.hwmWrite v) s = .next { s with mgmt := some ⟨3, .badarg, [], false⟩ }) ∧
    (1 ≤ v.toNat → v.toNat ≤ 32 →
      ∃ t, exec (.hwmWrite v) s = .next t ∧ t.mgmt = some ⟨3, .done, [], false⟩ ∧
        t.regs = { s.regs with hwm := v.extractLsb' 0 6 } ∧
        (∀ (i : SlotNo) (l : Line), v.toNat ≤ s.store.fill → s.hasPressureBank = false → s.store.slots[i] = some l →
          s.FirstInAgeList (fun j => ∃ m, s.store.slots[j] = some m ∧ (s.bankState m.bank).isStuck = false) i →
          ∀ b : BankNo, t.causes[b] = { s.causes[b] with pressure := b == l.bank }) ∧
        (s.store.fill < v.toNat ∨ s.hasPressureBank = true → t.causes = s.causes) ∧
        (t.pressure = true → t.hasPressureBank = true ∨
          ∀ i ∈ t.store.ageList, ∀ l, t.store.slots[i] = some l → (t.bankState l.bank).isStuck = true)) ∧
    (1024 ≤ v.toNat → exec (.ageLimitWrite v) s = .next { s with mgmt := some ⟨3, .badarg, [], false⟩ }) ∧
    (v.toNat < 1024 →
      ∃ t, exec (.ageLimitWrite v) s = .next t ∧ t.mgmt = some ⟨3, .done, [], false⟩ ∧
        t.regs = { s.regs with ageLimit := v.extractLsb' 0 10 } ∧
        ∀ b : BankNo, s.ageExpired b = false →
          State.ageExpired { s with regs := { s.regs with ageLimit := v.extractLsb' 0 10 } } b = true →
          (t.causes[b]).age = true)

/-- R168, R169, R170: IRQ STATUS shows the five causes, a write of it clears the latched flags it names and no other cause, IRQ ENABLE takes
the written value, and IRQ is asserted exactly while a cause is both active and enabled. That COUNTER_HIGH_READ carries the
register's number is the model's choice (log 18). -/
def Obligations.InterruptCausesAreShownClearedAndEnabled : Prop :=
  ∀ (s : State) (v : BitVec 16),
    (s.irqStatus.getLsbD 0 = true ↔ s.faults.records ≠ [] ∨ s.faults.overflow ≠ 0) ∧
    (s.irqStatus.getLsbD 1 = true ↔ ∃ b : BankNo, s.fitted b = true ∧ (s.bankState b).isStuck = true) ∧
    s.irqStatus.getLsbD 2 = s.irq.lost ∧ s.irqStatus.getLsbD 3 = s.irq.safe ∧
    s.irqStatus.getLsbD 4 = s.irq.clearDone ∧
    (s.irqAsserted = true ↔ ∃ n : Fin 5, s.irqStatus.getLsbD n = true ∧ s.irq.enables.getLsbD n = true) ∧
    (s.awaitRise = false → exec (.counterHighRead 0x05) s = .next { s with mgmt := some ⟨1, .done, bytesOf 2 s.irqStatus.toNat, false⟩ } ∧
      exec (.counterHighRead 0x06) s = .next { s with mgmt := some ⟨1, .done, bytesOf 2 s.irq.enables.toNat, false⟩ }) ∧
    (s.awaitRise = false → 32 ≤ v.toNat →
      exec (.irqStatusWrite v) s = .next { s with mgmt := some ⟨3, .badarg, [], false⟩ } ∧
      exec (.irqEnableWrite v) s = .next { s with mgmt := some ⟨3, .badarg, [], false⟩ }) ∧
    (s.awaitRise = false → v.toNat < 32 →
      exec (.irqStatusWrite v) s = .next { s with
        irq := { s.irq with
          lost := s.irq.lost && !v.getLsbD 2, safe := s.irq.safe && !v.getLsbD 3
          clearDone := s.irq.clearDone && !v.getLsbD 4 }
        mgmt := some ⟨3, .done, [], false⟩ } ∧
      exec (.irqEnableWrite v) s = .next { s with
        irq := { s.irq with enables := v.extractLsb' 0 5 }, mgmt := some ⟨3, .done, [], false⟩ })

/-- R199: the RESET RECORD counts the assertions of RESETn and keeps the fill level at the last one; the negation leaves it, power-on reset
clears it, and a write of zero, and only that, clears it. That COUNTER_HIGH_READ carries the register's number (Table 10-5) is the
model's choice (log 18). -/
def Obligations.ResetRecordCountsAssertions : Prop :=
  ∀ (s : State) (v : BitVec 16),
    (s.pins.resetn = false → ∃ t, exec .resetnAssertion s = .next t ∧
      t.regs.resetCount = (if s.regs.resetCount = 255 then 255 else s.regs.resetCount + 1) ∧
      t.regs.linesAtReset = BitVec.ofNat 8 s.store.fill) ∧
    (∃ t, exec .resetnNegation s = .next t ∧ t.regs.resetCount = s.regs.resetCount ∧
      t.regs.linesAtReset = s.regs.linesAtReset) ∧
    (∃ t, exec .powerOnReset s = .next t ∧ t.regs.resetCount = 0 ∧ t.regs.linesAtReset = 0) ∧
    (s.awaitRise = false → exec (.counterHighRead 0x07) s = .next { s with
      mgmt := some ⟨1, .done, [s.regs.resetCount, s.regs.linesAtReset], false⟩ }) ∧
    (s.awaitRise = false → v = 0 → exec (.resetRecordWrite v) s = .next { s with
      regs := { s.regs with resetCount := 0, linesAtReset := 0 }, mgmt := some ⟨3, .done, [], false⟩ }) ∧
    (s.awaitRise = false → v ≠ 0 → exec (.resetRecordWrite v) s = .next { s with mgmt := some ⟨3, .badarg, [], false⟩ })

/-- R85, R194: a policy write sets the fields of its register and no other; a running timer of the bank keeps its limit while its conditions
hold, a stopped one whose conditions the write makes hold starts with the new delay, and one whose conditions fail stops. -/
def Obligations.PolicyWritesStartAndStopTimers : Prop :=
  ∀ (s : State) (b : BankNo) (v : BitVec 16), s.awaitRise = false →
    (32768 ≤ v.toNat → exec (.bankPolicyAWrite b v) s = .next { s with mgmt := some ⟨3, .badarg, [], false⟩ }) ∧
    (4096 ≤ v.toNat → exec (.bankPolicyBWrite b v) s = .next { s with mgmt := some ⟨3, .badarg, [], false⟩ }) ∧
    (v.toNat < 32768 →
      ∃ t, exec (.bankPolicyAWrite b v) s = .next t ∧ t = { s with regs := t.regs, banks := t.banks, mgmt := t.mgmt } ∧
        t.mgmt = some ⟨3, .done, [], false⟩ ∧ t.regs = { s.regs with policy := t.regs.policy } ∧
        (∀ c, c ≠ b → t.regs.policy[c] = s.regs.policy[c] ∧ t.banks[c] = s.banks[c]) ∧
        t.regs.policy[b] =
          { retainDelay := v.extractLsb' 0 12, offAllowed := v.getLsbD 12, clearOnWake := v.getLsbD 13,
            lostCheck := v.getLsbD 14, offDelay := s.regs.policy[b].offDelay } ∧
        t.banks[b] = { s.banks[b] with
          idleTimer :=
            if t.idleConditions b then
              if s.banks[b].idleTimer.isRunning then s.banks[b].idleTimer
              else .running (v.extractLsb' 0 12).toNat 0
            else .stopped
          offTimer :=
            if t.offConditions b then
              if s.banks[b].offTimer.isRunning then s.banks[b].offTimer
              else .running s.regs.policy[b].offDelay.toNat 0
            else .stopped }) ∧
    (v.toNat < 4096 →
      ∃ t, exec (.bankPolicyBWrite b v) s = .next t ∧ t = { s with regs := t.regs, banks := t.banks, mgmt := t.mgmt } ∧
        t.mgmt = some ⟨3, .done, [], false⟩ ∧ t.regs = { s.regs with policy := t.regs.policy } ∧
        (∀ c, c ≠ b → t.regs.policy[c] = s.regs.policy[c] ∧ t.banks[c] = s.banks[c]) ∧
        t.regs.policy[b] = { s.regs.policy[b] with offDelay := v.extractLsb' 0 12 } ∧
        t.banks[b] = { s.banks[b] with
          idleTimer :=
            if t.idleConditions b then
              if s.banks[b].idleTimer.isRunning then s.banks[b].idleTimer
              else .running s.regs.policy[b].retainDelay.toNat 0
            else .stopped
          offTimer :=
            if t.offConditions b then
              if s.banks[b].offTimer.isRunning then s.banks[b].offTimer else .running (v.extractLsb' 0 12).toNat 0
            else .stopped })

/-! ## The management port: orders -/

/-- R89, R188, Table 4-4, R145, R142: each of the seven orders gets BADARG for a bank number of 8 or more, REFUSED for an unfitted bank, and
REFUSED in a state that does not allow it; it then changes nothing but the frame. -/
def Obligations.RefusedOrdersChangeOnlyTheFrame : Prop :=
  ∀ (s : State) (bank : Byte), s.awaitRise = false →
    (∀ c ∈ [Instr.wakeOrder bank, .retainOrder bank, .offOrder bank, .retryOrder bank, .discardOrder bank,
        .clearOrder bank, .unlostOrder bank],
      (8 ≤ bank.toNat → exec c s = .next { s with mgmt := some ⟨2, .badarg, [], false⟩ }) ∧
      ∀ b : BankNo, bank.toNat = b.val → s.fitted b = false →
        exec c s = .next { s with mgmt := some ⟨2, .refused, [], false⟩ }) ∧
    ∀ b : BankNo, bank.toNat = b.val → s.fitted b = true →
    ((s.bankState b).isStuck = true →
      exec (.wakeOrder bank) s = .next { s with mgmt := some ⟨2, .refused, [], false⟩ }) ∧
    (s.bankState b ≠ .active → exec (.retainOrder bank) s = .next { s with mgmt := some ⟨2, .refused, [], false⟩ }) ∧
    ((s.bankState b ≠ .active ∧ s.bankState b ≠ .retain) ∨ s.lineCount b ≠ 0 ∨ s.entryCount b ≠ 0 →
      exec (.offOrder bank) s = .next { s with mgmt := some ⟨2, .refused, [], false⟩ }) ∧
    ((s.bankState b).isStuck = false →
      exec (.retryOrder bank) s = .next { s with mgmt := some ⟨2, .refused, [], false⟩ } ∧
      exec (.discardOrder bank) s = .next { s with mgmt := some ⟨2, .refused, [], false⟩ }) ∧
    (s.lineCount b ≠ 0 ∨ s.entryCount b ≠ 0 ∨
        (s.bankState b ≠ .active ∧ s.bankState b ≠ .off ∧ s.bankState b ≠ .retain) →
      exec (.clearOrder bank) s = .next { s with mgmt := some ⟨2, .refused, [], false⟩ }) ∧
    ((s.bankState b).isClearing = true →
      exec (.unlostOrder bank) s = .next { s with mgmt := some ⟨2, .refused, [], false⟩ })

/-- R90, R93, R95: WAKE and RETRY raise a bank: its request level becomes ACTIVE, its wake count rises, its settle timer starts. A WAKE of a
descending bank sets its pending wake, of a waking or clearing bank changes nothing, and starts an ACTIVE bank's running
idle timer afresh. -/
def Obligations.WakeAndRetryRaiseTheBank : Prop :=
  ∀ (s : State) (bank : Byte) (b : BankNo), s.awaitRise = false → bank.toNat = b.val → s.fitted b = true →
    (∀ o : Rest, s.bankState b = o.state → s.HandshakeOf b →
      ∃ t, exec (.wakeOrder bank) s = .next t ∧ t.mgmt = some ⟨2, .done, [], false⟩ ∧ t.bankState b = .waking o ∧
        t.banks[b].request = .active ∧ t.banks[b].settleTimer = .running s.regs.settleLimit.toNat 0 ∧
        t.banks[b].wakeCount = satInc s.banks[b].wakeCount ∧ t.banks[b].lost = s.banks[b].lost) ∧
    (∀ o : Rest, s.bankState b = .descending o →
      exec (.wakeOrder bank) s = .next { s with
        banks := updAt s.banks b fun k => { k with pendingWake := true }, mgmt := some ⟨2, .done, [], false⟩ }) ∧
    (∀ o : Rest, s.bankState b = .waking o ∨ s.bankState b = .clearing o →
      exec (.wakeOrder bank) s = .next { s with mgmt := some ⟨2, .done, [], false⟩ }) ∧
    (s.bankState b = .active → s.banks[b].idleTimer.isRunning = false →
      exec (.wakeOrder bank) s = .next { s with mgmt := some ⟨2, .done, [], false⟩ }) ∧
    (s.bankState b = .active → s.banks[b].idleTimer.isRunning = true →
      ∃ t, exec (.wakeOrder bank) s = .next t ∧ t.mgmt = some ⟨2, .done, [], false⟩ ∧ t.bankState b = .active ∧
        t.banks[b].wakeCount = s.banks[b].wakeCount ∧
        (t.idleConditions b = true →
          t.banks[b].idleTimer = .running s.regs.policy[b].retainDelay.toNat 0)) ∧
    (∀ o : Rest, s.bankState b = .stuck o → s.banks[b].settled = true → s.banks[b].reported = .active →
      ∃ t, exec (.retryOrder bank) s = .next t ∧ t.mgmt = some ⟨2, .done, [], false⟩ ∧
        t.banks[b].request = .active ∧ t.banks[b].settleTimer = .stopped ∧
        t.banks[b].wakeCount = satInc s.banks[b].wakeCount ∧ t.faults = s.faults ∧
        t.bankState b =
          (match o with
            | .retain => if s.clear.wanted[b] then .clearing .retain else .active
            | .off => if s.regs.policy[b].clearOnWake || s.clear.wanted[b] then .clearing .off else .active)) ∧
    (∀ o : Rest, s.bankState b = .stuck o → (s.banks[b].settled && s.banks[b].reported == .active) = false →
      ∃ t, exec (.retryOrder bank) s = .next t ∧ t.mgmt = some ⟨2, .done, [], false⟩ ∧ t.bankState b = .waking o ∧
        t.banks[b].request = .active ∧ t.banks[b].settleTimer = .running s.regs.settleLimit.toNat 0 ∧
        t.banks[b].wakeCount = satInc s.banks[b].wakeCount ∧ t.banks[b].lost = s.banks[b].lost ∧
        t.faults = s.faults)

/-- R91, R92: RETAIN and OFF lower a bank without work, and get BUSY while an operation for it is in flight. -/
def Obligations.RetainAndOffLowerTheBank : Prop :=
  ∀ (s : State) (bank : Byte) (b : BankNo), s.awaitRise = false → bank.toNat = b.val → s.fitted b = true →
    (s.bankState b = .active →
      (s.inFlightFor b = true → exec (.retainOrder bank) s = .next { s with mgmt := some ⟨2, .busy, [], false⟩ }) ∧
      (s.inFlightFor b = false → s.entryCount b ≠ 0 ∨ s.drainWanted b = true →
        exec (.retainOrder bank) s = .next { s with mgmt := some ⟨2, .refused, [], false⟩ }) ∧
      (s.inFlightFor b = false → s.entryCount b = 0 → s.drainWanted b = false →
        s.HandshakeOf b →
        ∃ t, exec (.retainOrder bank) s = .next t ∧ t.mgmt = some ⟨2, .done, [], false⟩ ∧
          t.bankState b = .descending .retain ∧ t.banks[b].request = .retain ∧
          t.banks[b].settleTimer = .running s.regs.settleLimit.toNat 0 ∧ t.banks[b].lost = s.banks[b].lost)) ∧
    (s.bankState b = .active ∨ s.bankState b = .retain → s.lineCount b = 0 → s.entryCount b = 0 →
      (s.inFlightFor b = true → exec (.offOrder bank) s = .next { s with mgmt := some ⟨2, .busy, [], false⟩ }) ∧
      (s.inFlightFor b = false → s.HandshakeOf b →
        ∃ t, exec (.offOrder bank) s = .next t ∧ t.mgmt = some ⟨2, .done, [], false⟩ ∧
          t.bankState b = .descending .off ∧ t.banks[b].request = .off ∧
          t.banks[b].settleTimer = .running s.regs.settleLimit.toNat 0 ∧ t.banks[b].lost = s.banks[b].lost))

/-- R94, R16, R104, R176: DISCARD frees every line of a STUCK bank, leaves a record with their number, sets LOST, and lowers the bank toward OFF. -/
def Obligations.DiscardGivesUpTheLines : Prop :=
  ∀ (s : State) (bank : Byte) (b : BankNo), s.awaitRise = false → bank.toNat = b.val → s.fitted b = true →
    (s.bankState b).isStuck = true →
    ∃ t, exec (.discardOrder bank) s = .next t ∧ t.mgmt = some ⟨2, .done, [], false⟩ ∧ t.banks[b].lost = true ∧
      ((s.banks[b].settled && s.banks[b].reported == .off) = false →
        t.bankState b = .descending .off ∧ t.banks[b].request = .off ∧
          t.banks[b].settleTimer = .running s.regs.settleLimit.toNat 0) ∧
      ((s.banks[b].settled && s.banks[b].reported == .off) = true → s.queue = [] → s.clear.wanted[b] = false →
        b ∉ s.clear.queue →
        t.bankState b = .off ∧ t.banks[b].request = .off ∧ t.banks[b].settleTimer = .stopped) ∧
      t.lineCount b = 0 ∧
      t.causes[b] = DrainCauses.none ∧
      t.faults = (s.handFault ⟨.linesDiscarded, b, none, none, none, some (s.lineCount b)⟩).faults ∧
      t.store.drainedLines = s.store.drainedLines ∧
      t.mode = (if s.mode = .recover ∧ s.store.fill = s.lineCount b then .normal else s.mode)

/-- R142, R144, R145: UNLOST clears the LOST flag of a bank that is not CLEARING and changes nothing else; CLEAR sends an ACTIVE bank without
lines and entries to CLEARING at the tail of the clear queue, and wakes an OFF or RETAIN one with its clear pending. -/
def Obligations.ClearAndUnlostSettleTheContents : Prop :=
  ∀ (s : State) (bank : Byte) (b : BankNo), s.awaitRise = false → bank.toNat = b.val → s.fitted b = true →
    ((s.bankState b).isClearing = false →
      exec (.unlostOrder bank) s = .next { s with
        banks := updAt s.banks b fun k => { k with lost := false }, mgmt := some ⟨2, .done, [], false⟩ }) ∧
    (s.lineCount b = 0 → s.entryCount b = 0 → s.bankState b = .active →
      ∃ t, exec (.clearOrder bank) s = .next t ∧ t.mgmt = some ⟨2, .done, [], false⟩ ∧
        t.bankState b = .clearing .retain ∧ s.clear.queue ++ [b] <+: t.clear.queue ∧
        t.banks[b].lost = s.banks[b].lost ∧
        (s.clear.queue = [] → t.clear.cursor = 0 ∧ t.clear.incomplete = false)) ∧
    ∀ o : Rest, s.lineCount b = 0 → s.entryCount b = 0 → s.bankState b = o.state → s.HandshakeOf b →
      ∃ t, exec (.clearOrder bank) s = .next t ∧ t.mgmt = some ⟨2, .done, [], false⟩ ∧ t.bankState b = .waking o ∧
        t.clear.wanted[b] = true ∧ t.banks[b].request = .active ∧
        t.banks[b].settleTimer = .running s.regs.settleLimit.toNat 0 ∧
        t.banks[b].wakeCount = satInc s.banks[b].wakeCount

/-- R117, R118, R103: FLUSH and FLUSH ALL add the FLUSH cause to the banks that hold lines, except STUCK ones, and are refused or pass over as
their rules say. -/
def Obligations.FlushFlagsBanksWithLines : Prop :=
  ∀ (s : State) (bank : Byte), s.awaitRise = false →
    (8 ≤ bank.toNat → exec (.flush bank) s = .next { s with mgmt := some ⟨1, .badarg, [], false⟩ }) ∧
    (∀ b : BankNo, bank.toNat = b.val →
      (s.fitted b = false ∨ (s.bankState b).isStuck = true →
        exec (.flush bank) s = .next { s with mgmt := some ⟨1, .refused, [], false⟩ }) ∧
      (s.fitted b = true → (s.bankState b).isStuck = false → s.lineCount b = 0 →
        exec (.flush bank) s = .next { s with mgmt := some ⟨1, .done, [], false⟩ }) ∧
      (s.fitted b = true → (s.bankState b).isStuck = false → s.lineCount b ≠ 0 →
        ∃ t, exec (.flush bank) s = .next t ∧ t.mgmt = some ⟨1, .done, [], false⟩ ∧ (t.causes[b]).flush = true ∧
          (∀ c, c ≠ b → (t.causes[c]).flush = (s.causes[c]).flush) ∧
          (s.bankState b = .retain → s.drainWanted b = false → s.HandshakeOf b →
            t.bankState b = .waking .retain))) ∧
    ∃ t, exec .flushAll s = .next t ∧ t.mgmt = some ⟨0, .done, [], false⟩ ∧
      ∀ b : BankNo, (t.causes[b]).flush =
        ((s.causes[b]).flush || (s.fitted b && !(s.bankState b).isStuck && s.lineCount b != 0))
end

