-- ==== Sys2Proof/Laws/State.lean ====
section
/-! SUPPORT. One lemma for each field and each plain update of the state, true by definition, and what is read back from an
updated vector. -/

namespace Sys2Proof

@[simp] theorem updAt_getElem {α : Type} {n : Nat} (v : Vector α n) (i : Fin n) (f : α → α) (k : Nat) (hk : k < n) :
    (updAt v i f)[k] = if i.val = k then f v[k] else v[k] := by
  unfold updAt
  by_cases h : i.val = k
  · subst h; simp
  · simp [h, Vector.getElem_set_ne _ _ h]

theorem updAt_self {α : Type} {n : Nat} (v : Vector α n) (i : Fin n) (f : α → α) : (updAt v i f)[i] = f v[i] := by simp

theorem updAt_ne {α : Type} {n : Nat} (v : Vector α n) {i j : Fin n} (f : α → α) (h : i ≠ j) : (updAt v i f)[j] = v[j] := by
  simp [Fin.val_inj, h]

@[simp] theorem mapAll_getElem {α β : Type} {n : Nat} (v : Vector α n) (f : α → β) (k : Nat) (hk : k < n) :
    (mapAll v f)[k] = f v[k] := by
  simp [mapAll]

namespace Machine.State

@[simp] theorem respond_store (s : State) (r : Request) (code : Code) (data : List Word) : (s.respond r code data).store = s.store := rfl
@[simp] theorem respond_regions (s : State) (r : Request) (code : Code) (data : List Word) : (s.respond r code data).regions = s.regions := rfl
@[simp] theorem respond_queue (s : State) (r : Request) (code : Code) (data : List Word) : (s.respond r code data).queue = s.queue := rfl
@[simp] theorem respond_banks (s : State) (r : Request) (code : Code) (data : List Word) : (s.respond r code data).banks = s.banks := rfl
@[simp] theorem respond_causes (s : State) (r : Request) (code : Code) (data : List Word) : (s.respond r code data).causes = s.causes := rfl
@[simp] theorem respond_port (s : State) (r : Request) (code : Code) (data : List Word) : (s.respond r code data).port = s.port := rfl
@[simp] theorem respond_clear (s : State) (r : Request) (code : Code) (data : List Word) : (s.respond r code data).clear = s.clear := rfl
@[simp] theorem respond_faults (s : State) (r : Request) (code : Code) (data : List Word) : (s.respond r code data).faults = s.faults := rfl
@[simp] theorem respond_irq (s : State) (r : Request) (code : Code) (data : List Word) : (s.respond r code data).irq = s.irq := rfl
@[simp] theorem respond_mode (s : State) (r : Request) (code : Code) (data : List Word) : (s.respond r code data).mode = s.mode := rfl
@[simp] theorem respond_regs (s : State) (r : Request) (code : Code) (data : List Word) : (s.respond r code data).regs = s.regs := rfl
@[simp] theorem respond_clock (s : State) (r : Request) (code : Code) (data : List Word) : (s.respond r code data).clock = s.clock := rfl
@[simp] theorem respond_pins (s : State) (r : Request) (code : Code) (data : List Word) : (s.respond r code data).pins = s.pins := rfl
@[simp] theorem respond_mgmt (s : State) (r : Request) (code : Code) (data : List Word) : (s.respond r code data).mgmt = s.mgmt := rfl
@[simp] theorem respond_pending (s : State) (r : Request) (code : Code) (data : List Word) : (s.respond r code data).pending = s.pending := rfl
@[simp] theorem respond_awaitRise (s : State) (r : Request) (code : Code) (data : List Word) : (s.respond r code data).awaitRise = s.awaitRise := rfl

@[simp] theorem reply_store (s : State) (n : Nat) (st : MgmtStatus) (res : List Byte) : (s.reply n st res).store = s.store := rfl
@[simp] theorem reply_regions (s : State) (n : Nat) (st : MgmtStatus) (res : List Byte) : (s.reply n st res).regions = s.regions := rfl
@[simp] theorem reply_queue (s : State) (n : Nat) (st : MgmtStatus) (res : List Byte) : (s.reply n st res).queue = s.queue := rfl
@[simp] theorem reply_banks (s : State) (n : Nat) (st : MgmtStatus) (res : List Byte) : (s.reply n st res).banks = s.banks := rfl
@[simp] theorem reply_causes (s : State) (n : Nat) (st : MgmtStatus) (res : List Byte) : (s.reply n st res).causes = s.causes := rfl
@[simp] theorem reply_port (s : State) (n : Nat) (st : MgmtStatus) (res : List Byte) : (s.reply n st res).port = s.port := rfl
@[simp] theorem reply_clear (s : State) (n : Nat) (st : MgmtStatus) (res : List Byte) : (s.reply n st res).clear = s.clear := rfl
@[simp] theorem reply_faults (s : State) (n : Nat) (st : MgmtStatus) (res : List Byte) : (s.reply n st res).faults = s.faults := rfl
@[simp] theorem reply_irq (s : State) (n : Nat) (st : MgmtStatus) (res : List Byte) : (s.reply n st res).irq = s.irq := rfl
@[simp] theorem reply_mode (s : State) (n : Nat) (st : MgmtStatus) (res : List Byte) : (s.reply n st res).mode = s.mode := rfl
@[simp] theorem reply_regs (s : State) (n : Nat) (st : MgmtStatus) (res : List Byte) : (s.reply n st res).regs = s.regs := rfl
@[simp] theorem reply_clock (s : State) (n : Nat) (st : MgmtStatus) (res : List Byte) : (s.reply n st res).clock = s.clock := rfl
@[simp] theorem reply_pins (s : State) (n : Nat) (st : MgmtStatus) (res : List Byte) : (s.reply n st res).pins = s.pins := rfl
@[simp] theorem reply_out (s : State) (n : Nat) (st : MgmtStatus) (res : List Byte) : (s.reply n st res).out = s.out := rfl
@[simp] theorem reply_pending (s : State) (n : Nat) (st : MgmtStatus) (res : List Byte) : (s.reply n st res).pending = s.pending := rfl
@[simp] theorem reply_awaitRise (s : State) (n : Nat) (st : MgmtStatus) (res : List Byte) : (s.reply n st res).awaitRise = s.awaitRise := rfl

@[simp] theorem setBank_store (s : State) (b : BankNo) (f : BankRecord → BankRecord) : (s.setBank b f).store = s.store := rfl
@[simp] theorem setBank_regions (s : State) (b : BankNo) (f : BankRecord → BankRecord) : (s.setBank b f).regions = s.regions := rfl
@[simp] theorem setBank_queue (s : State) (b : BankNo) (f : BankRecord → BankRecord) : (s.setBank b f).queue = s.queue := rfl
@[simp] theorem setBank_causes (s : State) (b : BankNo) (f : BankRecord → BankRecord) : (s.setBank b f).causes = s.causes := rfl
@[simp] theorem setBank_port (s : State) (b : BankNo) (f : BankRecord → BankRecord) : (s.setBank b f).port = s.port := rfl
@[simp] theorem setBank_clear (s : State) (b : BankNo) (f : BankRecord → BankRecord) : (s.setBank b f).clear = s.clear := rfl
@[simp] theorem setBank_faults (s : State) (b : BankNo) (f : BankRecord → BankRecord) : (s.setBank b f).faults = s.faults := rfl
@[simp] theorem setBank_irq (s : State) (b : BankNo) (f : BankRecord → BankRecord) : (s.setBank b f).irq = s.irq := rfl
@[simp] theorem setBank_mode (s : State) (b : BankNo) (f : BankRecord → BankRecord) : (s.setBank b f).mode = s.mode := rfl
@[simp] theorem setBank_regs (s : State) (b : BankNo) (f : BankRecord → BankRecord) : (s.setBank b f).regs = s.regs := rfl
@[simp] theorem setBank_clock (s : State) (b : BankNo) (f : BankRecord → BankRecord) : (s.setBank b f).clock = s.clock := rfl
@[simp] theorem setBank_pins (s : State) (b : BankNo) (f : BankRecord → BankRecord) : (s.setBank b f).pins = s.pins := rfl
@[simp] theorem setBank_mgmt (s : State) (b : BankNo) (f : BankRecord → BankRecord) : (s.setBank b f).mgmt = s.mgmt := rfl
@[simp] theorem setBank_out (s : State) (b : BankNo) (f : BankRecord → BankRecord) : (s.setBank b f).out = s.out := rfl
@[simp] theorem setBank_pending (s : State) (b : BankNo) (f : BankRecord → BankRecord) : (s.setBank b f).pending = s.pending := rfl
@[simp] theorem setBank_awaitRise (s : State) (b : BankNo) (f : BankRecord → BankRecord) : (s.setBank b f).awaitRise = s.awaitRise := rfl

@[simp] theorem setCauses_store (s : State) (b : BankNo) (f : DrainCauses → DrainCauses) : (s.setCauses b f).store = s.store := rfl
@[simp] theorem setCauses_regions (s : State) (b : BankNo) (f : DrainCauses → DrainCauses) : (s.setCauses b f).regions = s.regions := rfl
@[simp] theorem setCauses_queue (s : State) (b : BankNo) (f : DrainCauses → DrainCauses) : (s.setCauses b f).queue = s.queue := rfl
@[simp] theorem setCauses_banks (s : State) (b : BankNo) (f : DrainCauses → DrainCauses) : (s.setCauses b f).banks = s.banks := rfl
@[simp] theorem setCauses_port (s : State) (b : BankNo) (f : DrainCauses → DrainCauses) : (s.setCauses b f).port = s.port := rfl
@[simp] theorem setCauses_clear (s : State) (b : BankNo) (f : DrainCauses → DrainCauses) : (s.setCauses b f).clear = s.clear := rfl
@[simp] theorem setCauses_faults (s : State) (b : BankNo) (f : DrainCauses → DrainCauses) : (s.setCauses b f).faults = s.faults := rfl
@[simp] theorem setCauses_irq (s : State) (b : BankNo) (f : DrainCauses → DrainCauses) : (s.setCauses b f).irq = s.irq := rfl
@[simp] theorem setCauses_mode (s : State) (b : BankNo) (f : DrainCauses → DrainCauses) : (s.setCauses b f).mode = s.mode := rfl
@[simp] theorem setCauses_regs (s : State) (b : BankNo) (f : DrainCauses → DrainCauses) : (s.setCauses b f).regs = s.regs := rfl
@[simp] theorem setCauses_clock (s : State) (b : BankNo) (f : DrainCauses → DrainCauses) : (s.setCauses b f).clock = s.clock := rfl
@[simp] theorem setCauses_pins (s : State) (b : BankNo) (f : DrainCauses → DrainCauses) : (s.setCauses b f).pins = s.pins := rfl
@[simp] theorem setCauses_mgmt (s : State) (b : BankNo) (f : DrainCauses → DrainCauses) : (s.setCauses b f).mgmt = s.mgmt := rfl
@[simp] theorem setCauses_out (s : State) (b : BankNo) (f : DrainCauses → DrainCauses) : (s.setCauses b f).out = s.out := rfl
@[simp] theorem setCauses_pending (s : State) (b : BankNo) (f : DrainCauses → DrainCauses) : (s.setCauses b f).pending = s.pending := rfl
@[simp] theorem setCauses_awaitRise (s : State) (b : BankNo) (f : DrainCauses → DrainCauses) : (s.setCauses b f).awaitRise = s.awaitRise := rfl

@[simp] theorem setClearPending_store (s : State) (b : BankNo) (v : Bool) : (s.setClearPending b v).store = s.store := rfl
@[simp] theorem setClearPending_regions (s : State) (b : BankNo) (v : Bool) : (s.setClearPending b v).regions = s.regions := rfl
@[simp] theorem setClearPending_queue (s : State) (b : BankNo) (v : Bool) : (s.setClearPending b v).queue = s.queue := rfl
@[simp] theorem setClearPending_banks (s : State) (b : BankNo) (v : Bool) : (s.setClearPending b v).banks = s.banks := rfl
@[simp] theorem setClearPending_causes (s : State) (b : BankNo) (v : Bool) : (s.setClearPending b v).causes = s.causes := rfl
@[simp] theorem setClearPending_port (s : State) (b : BankNo) (v : Bool) : (s.setClearPending b v).port = s.port := rfl
@[simp] theorem setClearPending_faults (s : State) (b : BankNo) (v : Bool) : (s.setClearPending b v).faults = s.faults := rfl
@[simp] theorem setClearPending_irq (s : State) (b : BankNo) (v : Bool) : (s.setClearPending b v).irq = s.irq := rfl
@[simp] theorem setClearPending_mode (s : State) (b : BankNo) (v : Bool) : (s.setClearPending b v).mode = s.mode := rfl
@[simp] theorem setClearPending_regs (s : State) (b : BankNo) (v : Bool) : (s.setClearPending b v).regs = s.regs := rfl
@[simp] theorem setClearPending_clock (s : State) (b : BankNo) (v : Bool) : (s.setClearPending b v).clock = s.clock := rfl
@[simp] theorem setClearPending_pins (s : State) (b : BankNo) (v : Bool) : (s.setClearPending b v).pins = s.pins := rfl
@[simp] theorem setClearPending_mgmt (s : State) (b : BankNo) (v : Bool) : (s.setClearPending b v).mgmt = s.mgmt := rfl
@[simp] theorem setClearPending_out (s : State) (b : BankNo) (v : Bool) : (s.setClearPending b v).out = s.out := rfl
@[simp] theorem setClearPending_pending (s : State) (b : BankNo) (v : Bool) : (s.setClearPending b v).pending = s.pending := rfl
@[simp] theorem setClearPending_awaitRise (s : State) (b : BankNo) (v : Bool) : (s.setClearPending b v).awaitRise = s.awaitRise := rfl

@[simp] theorem requestLevel_store (s : State) (b : BankNo) (l : Level) (st : BankState) : (s.requestLevel b l st).store = s.store := rfl
@[simp] theorem requestLevel_regions (s : State) (b : BankNo) (l : Level) (st : BankState) : (s.requestLevel b l st).regions = s.regions := rfl
@[simp] theorem requestLevel_queue (s : State) (b : BankNo) (l : Level) (st : BankState) : (s.requestLevel b l st).queue = s.queue := rfl
@[simp] theorem requestLevel_causes (s : State) (b : BankNo) (l : Level) (st : BankState) : (s.requestLevel b l st).causes = s.causes := rfl
@[simp] theorem requestLevel_port (s : State) (b : BankNo) (l : Level) (st : BankState) : (s.requestLevel b l st).port = s.port := rfl
@[simp] theorem requestLevel_clear (s : State) (b : BankNo) (l : Level) (st : BankState) : (s.requestLevel b l st).clear = s.clear := rfl
@[simp] theorem requestLevel_faults (s : State) (b : BankNo) (l : Level) (st : BankState) : (s.requestLevel b l st).faults = s.faults := rfl
@[simp] theorem requestLevel_irq (s : State) (b : BankNo) (l : Level) (st : BankState) : (s.requestLevel b l st).irq = s.irq := rfl
@[simp] theorem requestLevel_mode (s : State) (b : BankNo) (l : Level) (st : BankState) : (s.requestLevel b l st).mode = s.mode := rfl
@[simp] theorem requestLevel_regs (s : State) (b : BankNo) (l : Level) (st : BankState) : (s.requestLevel b l st).regs = s.regs := rfl
@[simp] theorem requestLevel_clock (s : State) (b : BankNo) (l : Level) (st : BankState) : (s.requestLevel b l st).clock = s.clock := rfl
@[simp] theorem requestLevel_pins (s : State) (b : BankNo) (l : Level) (st : BankState) : (s.requestLevel b l st).pins = s.pins := rfl
@[simp] theorem requestLevel_mgmt (s : State) (b : BankNo) (l : Level) (st : BankState) : (s.requestLevel b l st).mgmt = s.mgmt := rfl
@[simp] theorem requestLevel_out (s : State) (b : BankNo) (l : Level) (st : BankState) : (s.requestLevel b l st).out = s.out := rfl
@[simp] theorem requestLevel_pending (s : State) (b : BankNo) (l : Level) (st : BankState) : (s.requestLevel b l st).pending = s.pending := rfl
@[simp] theorem requestLevel_awaitRise (s : State) (b : BankNo) (l : Level) (st : BankState) : (s.requestLevel b l st).awaitRise = s.awaitRise := rfl

@[simp] theorem enterClearing_store (s : State) (b : BankNo) (o : Rest) : (s.enterClearing b o).store = s.store := rfl
@[simp] theorem enterClearing_regions (s : State) (b : BankNo) (o : Rest) : (s.enterClearing b o).regions = s.regions := rfl
@[simp] theorem enterClearing_queue (s : State) (b : BankNo) (o : Rest) : (s.enterClearing b o).queue = s.queue := rfl
@[simp] theorem enterClearing_causes (s : State) (b : BankNo) (o : Rest) : (s.enterClearing b o).causes = s.causes := rfl
@[simp] theorem enterClearing_port (s : State) (b : BankNo) (o : Rest) : (s.enterClearing b o).port = s.port := rfl
@[simp] theorem enterClearing_faults (s : State) (b : BankNo) (o : Rest) : (s.enterClearing b o).faults = s.faults := rfl
@[simp] theorem enterClearing_irq (s : State) (b : BankNo) (o : Rest) : (s.enterClearing b o).irq = s.irq := rfl
@[simp] theorem enterClearing_mode (s : State) (b : BankNo) (o : Rest) : (s.enterClearing b o).mode = s.mode := rfl
@[simp] theorem enterClearing_regs (s : State) (b : BankNo) (o : Rest) : (s.enterClearing b o).regs = s.regs := rfl
@[simp] theorem enterClearing_clock (s : State) (b : BankNo) (o : Rest) : (s.enterClearing b o).clock = s.clock := rfl
@[simp] theorem enterClearing_pins (s : State) (b : BankNo) (o : Rest) : (s.enterClearing b o).pins = s.pins := rfl
@[simp] theorem enterClearing_mgmt (s : State) (b : BankNo) (o : Rest) : (s.enterClearing b o).mgmt = s.mgmt := rfl
@[simp] theorem enterClearing_out (s : State) (b : BankNo) (o : Rest) : (s.enterClearing b o).out = s.out := rfl
@[simp] theorem enterClearing_pending (s : State) (b : BankNo) (o : Rest) : (s.enterClearing b o).pending = s.pending := rfl
@[simp] theorem enterClearing_awaitRise (s : State) (b : BankNo) (o : Rest) : (s.enterClearing b o).awaitRise = s.awaitRise := rfl

@[simp] theorem sampleLines_store (s : State) (b : BankNo) : (s.sampleLines b).store = s.store := rfl
@[simp] theorem sampleLines_regions (s : State) (b : BankNo) : (s.sampleLines b).regions = s.regions := rfl
@[simp] theorem sampleLines_queue (s : State) (b : BankNo) : (s.sampleLines b).queue = s.queue := rfl
@[simp] theorem sampleLines_causes (s : State) (b : BankNo) : (s.sampleLines b).causes = s.causes := rfl
@[simp] theorem sampleLines_port (s : State) (b : BankNo) : (s.sampleLines b).port = s.port := rfl
@[simp] theorem sampleLines_clear (s : State) (b : BankNo) : (s.sampleLines b).clear = s.clear := rfl
@[simp] theorem sampleLines_faults (s : State) (b : BankNo) : (s.sampleLines b).faults = s.faults := rfl
@[simp] theorem sampleLines_irq (s : State) (b : BankNo) : (s.sampleLines b).irq = s.irq := rfl
@[simp] theorem sampleLines_mode (s : State) (b : BankNo) : (s.sampleLines b).mode = s.mode := rfl
@[simp] theorem sampleLines_regs (s : State) (b : BankNo) : (s.sampleLines b).regs = s.regs := rfl
@[simp] theorem sampleLines_clock (s : State) (b : BankNo) : (s.sampleLines b).clock = s.clock := rfl
@[simp] theorem sampleLines_pins (s : State) (b : BankNo) : (s.sampleLines b).pins = s.pins := rfl
@[simp] theorem sampleLines_mgmt (s : State) (b : BankNo) : (s.sampleLines b).mgmt = s.mgmt := rfl
@[simp] theorem sampleLines_out (s : State) (b : BankNo) : (s.sampleLines b).out = s.out := rfl
@[simp] theorem sampleLines_pending (s : State) (b : BankNo) : (s.sampleLines b).pending = s.pending := rfl
@[simp] theorem sampleLines_awaitRise (s : State) (b : BankNo) : (s.sampleLines b).awaitRise = s.awaitRise := rfl

@[simp] theorem markFailed_store (s : State) (b : BankNo) : (s.markFailed b).store = s.store := rfl
@[simp] theorem markFailed_regions (s : State) (b : BankNo) : (s.markFailed b).regions = s.regions := rfl
@[simp] theorem markFailed_banks (s : State) (b : BankNo) : (s.markFailed b).banks = s.banks := rfl
@[simp] theorem markFailed_causes (s : State) (b : BankNo) : (s.markFailed b).causes = s.causes := rfl
@[simp] theorem markFailed_port (s : State) (b : BankNo) : (s.markFailed b).port = s.port := rfl
@[simp] theorem markFailed_clear (s : State) (b : BankNo) : (s.markFailed b).clear = s.clear := rfl
@[simp] theorem markFailed_faults (s : State) (b : BankNo) : (s.markFailed b).faults = s.faults := rfl
@[simp] theorem markFailed_irq (s : State) (b : BankNo) : (s.markFailed b).irq = s.irq := rfl
@[simp] theorem markFailed_mode (s : State) (b : BankNo) : (s.markFailed b).mode = s.mode := rfl
@[simp] theorem markFailed_regs (s : State) (b : BankNo) : (s.markFailed b).regs = s.regs := rfl
@[simp] theorem markFailed_clock (s : State) (b : BankNo) : (s.markFailed b).clock = s.clock := rfl
@[simp] theorem markFailed_pins (s : State) (b : BankNo) : (s.markFailed b).pins = s.pins := rfl
@[simp] theorem markFailed_mgmt (s : State) (b : BankNo) : (s.markFailed b).mgmt = s.mgmt := rfl
@[simp] theorem markFailed_out (s : State) (b : BankNo) : (s.markFailed b).out = s.out := rfl
@[simp] theorem markFailed_pending (s : State) (b : BankNo) : (s.markFailed b).pending = s.pending := rfl
@[simp] theorem markFailed_awaitRise (s : State) (b : BankNo) : (s.markFailed b).awaitRise = s.awaitRise := rfl

@[simp] theorem appendEntry_store (s : State) (r : Request) (st : EntryStatus) : (s.appendEntry r st).store = s.store := rfl
@[simp] theorem appendEntry_regions (s : State) (r : Request) (st : EntryStatus) : (s.appendEntry r st).regions = s.regions := rfl
@[simp] theorem appendEntry_banks (s : State) (r : Request) (st : EntryStatus) : (s.appendEntry r st).banks = s.banks := rfl
@[simp] theorem appendEntry_causes (s : State) (r : Request) (st : EntryStatus) : (s.appendEntry r st).causes = s.causes := rfl
@[simp] theorem appendEntry_port (s : State) (r : Request) (st : EntryStatus) : (s.appendEntry r st).port = s.port := rfl
@[simp] theorem appendEntry_clear (s : State) (r : Request) (st : EntryStatus) : (s.appendEntry r st).clear = s.clear := rfl
@[simp] theorem appendEntry_faults (s : State) (r : Request) (st : EntryStatus) : (s.appendEntry r st).faults = s.faults := rfl
@[simp] theorem appendEntry_irq (s : State) (r : Request) (st : EntryStatus) : (s.appendEntry r st).irq = s.irq := rfl
@[simp] theorem appendEntry_mode (s : State) (r : Request) (st : EntryStatus) : (s.appendEntry r st).mode = s.mode := rfl
@[simp] theorem appendEntry_regs (s : State) (r : Request) (st : EntryStatus) : (s.appendEntry r st).regs = s.regs := rfl
@[simp] theorem appendEntry_clock (s : State) (r : Request) (st : EntryStatus) : (s.appendEntry r st).clock = s.clock := rfl
@[simp] theorem appendEntry_pins (s : State) (r : Request) (st : EntryStatus) : (s.appendEntry r st).pins = s.pins := rfl
@[simp] theorem appendEntry_mgmt (s : State) (r : Request) (st : EntryStatus) : (s.appendEntry r st).mgmt = s.mgmt := rfl
@[simp] theorem appendEntry_out (s : State) (r : Request) (st : EntryStatus) : (s.appendEntry r st).out = s.out := rfl
@[simp] theorem appendEntry_pending (s : State) (r : Request) (st : EntryStatus) : (s.appendEntry r st).pending = s.pending := rfl
@[simp] theorem appendEntry_awaitRise (s : State) (r : Request) (st : EntryStatus) : (s.appendEntry r st).awaitRise = s.awaitRise := rfl

@[simp] theorem removeEntry_store (s : State) (k : Nat) : (s.removeEntry k).store = s.store := rfl
@[simp] theorem removeEntry_regions (s : State) (k : Nat) : (s.removeEntry k).regions = s.regions := rfl
@[simp] theorem removeEntry_banks (s : State) (k : Nat) : (s.removeEntry k).banks = s.banks := rfl
@[simp] theorem removeEntry_causes (s : State) (k : Nat) : (s.removeEntry k).causes = s.causes := rfl
@[simp] theorem removeEntry_port (s : State) (k : Nat) : (s.removeEntry k).port = s.port := rfl
@[simp] theorem removeEntry_clear (s : State) (k : Nat) : (s.removeEntry k).clear = s.clear := rfl
@[simp] theorem removeEntry_faults (s : State) (k : Nat) : (s.removeEntry k).faults = s.faults := rfl
@[simp] theorem removeEntry_irq (s : State) (k : Nat) : (s.removeEntry k).irq = s.irq := rfl
@[simp] theorem removeEntry_mode (s : State) (k : Nat) : (s.removeEntry k).mode = s.mode := rfl
@[simp] theorem removeEntry_regs (s : State) (k : Nat) : (s.removeEntry k).regs = s.regs := rfl
@[simp] theorem removeEntry_clock (s : State) (k : Nat) : (s.removeEntry k).clock = s.clock := rfl
@[simp] theorem removeEntry_pins (s : State) (k : Nat) : (s.removeEntry k).pins = s.pins := rfl
@[simp] theorem removeEntry_mgmt (s : State) (k : Nat) : (s.removeEntry k).mgmt = s.mgmt := rfl
@[simp] theorem removeEntry_out (s : State) (k : Nat) : (s.removeEntry k).out = s.out := rfl
@[simp] theorem removeEntry_pending (s : State) (k : Nat) : (s.removeEntry k).pending = s.pending := rfl
@[simp] theorem removeEntry_awaitRise (s : State) (k : Nat) : (s.removeEntry k).awaitRise = s.awaitRise := rfl

@[simp] theorem setStatus_store (s : State) (k : Nat) (st : EntryStatus) : (s.setStatus k st).store = s.store := rfl
@[simp] theorem setStatus_regions (s : State) (k : Nat) (st : EntryStatus) : (s.setStatus k st).regions = s.regions := rfl
@[simp] theorem setStatus_banks (s : State) (k : Nat) (st : EntryStatus) : (s.setStatus k st).banks = s.banks := rfl
@[simp] theorem setStatus_causes (s : State) (k : Nat) (st : EntryStatus) : (s.setStatus k st).causes = s.causes := rfl
@[simp] theorem setStatus_port (s : State) (k : Nat) (st : EntryStatus) : (s.setStatus k st).port = s.port := rfl
@[simp] theorem setStatus_clear (s : State) (k : Nat) (st : EntryStatus) : (s.setStatus k st).clear = s.clear := rfl
@[simp] theorem setStatus_faults (s : State) (k : Nat) (st : EntryStatus) : (s.setStatus k st).faults = s.faults := rfl
@[simp] theorem setStatus_irq (s : State) (k : Nat) (st : EntryStatus) : (s.setStatus k st).irq = s.irq := rfl
@[simp] theorem setStatus_mode (s : State) (k : Nat) (st : EntryStatus) : (s.setStatus k st).mode = s.mode := rfl
@[simp] theorem setStatus_regs (s : State) (k : Nat) (st : EntryStatus) : (s.setStatus k st).regs = s.regs := rfl
@[simp] theorem setStatus_clock (s : State) (k : Nat) (st : EntryStatus) : (s.setStatus k st).clock = s.clock := rfl
@[simp] theorem setStatus_pins (s : State) (k : Nat) (st : EntryStatus) : (s.setStatus k st).pins = s.pins := rfl
@[simp] theorem setStatus_mgmt (s : State) (k : Nat) (st : EntryStatus) : (s.setStatus k st).mgmt = s.mgmt := rfl
@[simp] theorem setStatus_out (s : State) (k : Nat) (st : EntryStatus) : (s.setStatus k st).out = s.out := rfl
@[simp] theorem setStatus_pending (s : State) (k : Nat) (st : EntryStatus) : (s.setStatus k st).pending = s.pending := rfl
@[simp] theorem setStatus_awaitRise (s : State) (k : Nat) (st : EntryStatus) : (s.setStatus k st).awaitRise = s.awaitRise := rfl

@[simp] theorem answerEntry_store (s : State) (k : Nat) (e : Entry) (c : Code) (d : List Word) : (s.answerEntry k e c d).store = s.store := rfl
@[simp] theorem answerEntry_regions (s : State) (k : Nat) (e : Entry) (c : Code) (d : List Word) : (s.answerEntry k e c d).regions = s.regions := rfl
@[simp] theorem answerEntry_banks (s : State) (k : Nat) (e : Entry) (c : Code) (d : List Word) : (s.answerEntry k e c d).banks = s.banks := rfl
@[simp] theorem answerEntry_causes (s : State) (k : Nat) (e : Entry) (c : Code) (d : List Word) : (s.answerEntry k e c d).causes = s.causes := rfl
@[simp] theorem answerEntry_port (s : State) (k : Nat) (e : Entry) (c : Code) (d : List Word) : (s.answerEntry k e c d).port = s.port := rfl
@[simp] theorem answerEntry_clear (s : State) (k : Nat) (e : Entry) (c : Code) (d : List Word) : (s.answerEntry k e c d).clear = s.clear := rfl
@[simp] theorem answerEntry_faults (s : State) (k : Nat) (e : Entry) (c : Code) (d : List Word) : (s.answerEntry k e c d).faults = s.faults := rfl
@[simp] theorem answerEntry_irq (s : State) (k : Nat) (e : Entry) (c : Code) (d : List Word) : (s.answerEntry k e c d).irq = s.irq := rfl
@[simp] theorem answerEntry_mode (s : State) (k : Nat) (e : Entry) (c : Code) (d : List Word) : (s.answerEntry k e c d).mode = s.mode := rfl
@[simp] theorem answerEntry_regs (s : State) (k : Nat) (e : Entry) (c : Code) (d : List Word) : (s.answerEntry k e c d).regs = s.regs := rfl
@[simp] theorem answerEntry_clock (s : State) (k : Nat) (e : Entry) (c : Code) (d : List Word) : (s.answerEntry k e c d).clock = s.clock := rfl
@[simp] theorem answerEntry_pins (s : State) (k : Nat) (e : Entry) (c : Code) (d : List Word) : (s.answerEntry k e c d).pins = s.pins := rfl
@[simp] theorem answerEntry_mgmt (s : State) (k : Nat) (e : Entry) (c : Code) (d : List Word) : (s.answerEntry k e c d).mgmt = s.mgmt := rfl
@[simp] theorem answerEntry_pending (s : State) (k : Nat) (e : Entry) (c : Code) (d : List Word) : (s.answerEntry k e c d).pending = s.pending := rfl
@[simp] theorem answerEntry_awaitRise (s : State) (k : Nat) (e : Entry) (c : Code) (d : List Word) : (s.answerEntry k e c d).awaitRise = s.awaitRise := rfl

@[simp] theorem setTurn_store (s : State) (t : Turn) : (s.setTurn t).store = s.store := rfl
@[simp] theorem setTurn_regions (s : State) (t : Turn) : (s.setTurn t).regions = s.regions := rfl
@[simp] theorem setTurn_queue (s : State) (t : Turn) : (s.setTurn t).queue = s.queue := rfl
@[simp] theorem setTurn_banks (s : State) (t : Turn) : (s.setTurn t).banks = s.banks := rfl
@[simp] theorem setTurn_causes (s : State) (t : Turn) : (s.setTurn t).causes = s.causes := rfl
@[simp] theorem setTurn_clear (s : State) (t : Turn) : (s.setTurn t).clear = s.clear := rfl
@[simp] theorem setTurn_faults (s : State) (t : Turn) : (s.setTurn t).faults = s.faults := rfl
@[simp] theorem setTurn_irq (s : State) (t : Turn) : (s.setTurn t).irq = s.irq := rfl
@[simp] theorem setTurn_mode (s : State) (t : Turn) : (s.setTurn t).mode = s.mode := rfl
@[simp] theorem setTurn_regs (s : State) (t : Turn) : (s.setTurn t).regs = s.regs := rfl
@[simp] theorem setTurn_clock (s : State) (t : Turn) : (s.setTurn t).clock = s.clock := rfl
@[simp] theorem setTurn_pins (s : State) (t : Turn) : (s.setTurn t).pins = s.pins := rfl
@[simp] theorem setTurn_mgmt (s : State) (t : Turn) : (s.setTurn t).mgmt = s.mgmt := rfl
@[simp] theorem setTurn_out (s : State) (t : Turn) : (s.setTurn t).out = s.out := rfl
@[simp] theorem setTurn_pending (s : State) (t : Turn) : (s.setTurn t).pending = s.pending := rfl
@[simp] theorem setTurn_awaitRise (s : State) (t : Turn) : (s.setTurn t).awaitRise = s.awaitRise := rfl

@[simp] theorem issue_store (s : State) (k : OpKind) (b : BankNo) (a : ByteAddr) (n : Nat) (p : Presenter) (op : MemOp) : (s.issue k b a n p op).store = s.store := rfl
@[simp] theorem issue_regions (s : State) (k : OpKind) (b : BankNo) (a : ByteAddr) (n : Nat) (p : Presenter) (op : MemOp) : (s.issue k b a n p op).regions = s.regions := rfl
@[simp] theorem issue_queue (s : State) (k : OpKind) (b : BankNo) (a : ByteAddr) (n : Nat) (p : Presenter) (op : MemOp) : (s.issue k b a n p op).queue = s.queue := rfl
@[simp] theorem issue_banks (s : State) (k : OpKind) (b : BankNo) (a : ByteAddr) (n : Nat) (p : Presenter) (op : MemOp) : (s.issue k b a n p op).banks = s.banks := rfl
@[simp] theorem issue_causes (s : State) (k : OpKind) (b : BankNo) (a : ByteAddr) (n : Nat) (p : Presenter) (op : MemOp) : (s.issue k b a n p op).causes = s.causes := rfl
@[simp] theorem issue_clear (s : State) (k : OpKind) (b : BankNo) (a : ByteAddr) (n : Nat) (p : Presenter) (op : MemOp) : (s.issue k b a n p op).clear = s.clear := rfl
@[simp] theorem issue_faults (s : State) (k : OpKind) (b : BankNo) (a : ByteAddr) (n : Nat) (p : Presenter) (op : MemOp) : (s.issue k b a n p op).faults = s.faults := rfl
@[simp] theorem issue_irq (s : State) (k : OpKind) (b : BankNo) (a : ByteAddr) (n : Nat) (p : Presenter) (op : MemOp) : (s.issue k b a n p op).irq = s.irq := rfl
@[simp] theorem issue_mode (s : State) (k : OpKind) (b : BankNo) (a : ByteAddr) (n : Nat) (p : Presenter) (op : MemOp) : (s.issue k b a n p op).mode = s.mode := rfl
@[simp] theorem issue_regs (s : State) (k : OpKind) (b : BankNo) (a : ByteAddr) (n : Nat) (p : Presenter) (op : MemOp) : (s.issue k b a n p op).regs = s.regs := rfl
@[simp] theorem issue_clock (s : State) (k : OpKind) (b : BankNo) (a : ByteAddr) (n : Nat) (p : Presenter) (op : MemOp) : (s.issue k b a n p op).clock = s.clock := rfl
@[simp] theorem issue_pins (s : State) (k : OpKind) (b : BankNo) (a : ByteAddr) (n : Nat) (p : Presenter) (op : MemOp) : (s.issue k b a n p op).pins = s.pins := rfl
@[simp] theorem issue_mgmt (s : State) (k : OpKind) (b : BankNo) (a : ByteAddr) (n : Nat) (p : Presenter) (op : MemOp) : (s.issue k b a n p op).mgmt = s.mgmt := rfl
@[simp] theorem issue_pending (s : State) (k : OpKind) (b : BankNo) (a : ByteAddr) (n : Nat) (p : Presenter) (op : MemOp) : (s.issue k b a n p op).pending = s.pending := rfl
@[simp] theorem issue_awaitRise (s : State) (k : OpKind) (b : BankNo) (a : ByteAddr) (n : Nat) (p : Presenter) (op : MemOp) : (s.issue k b a n p op).awaitRise = s.awaitRise := rfl

@[simp] theorem refreshTimersOf_store (s : State) (b : BankNo) : (s.refreshTimersOf b).store = s.store := rfl
@[simp] theorem refreshTimersOf_regions (s : State) (b : BankNo) : (s.refreshTimersOf b).regions = s.regions := rfl
@[simp] theorem refreshTimersOf_queue (s : State) (b : BankNo) : (s.refreshTimersOf b).queue = s.queue := rfl
@[simp] theorem refreshTimersOf_causes (s : State) (b : BankNo) : (s.refreshTimersOf b).causes = s.causes := rfl
@[simp] theorem refreshTimersOf_port (s : State) (b : BankNo) : (s.refreshTimersOf b).port = s.port := rfl
@[simp] theorem refreshTimersOf_clear (s : State) (b : BankNo) : (s.refreshTimersOf b).clear = s.clear := rfl
@[simp] theorem refreshTimersOf_faults (s : State) (b : BankNo) : (s.refreshTimersOf b).faults = s.faults := rfl
@[simp] theorem refreshTimersOf_irq (s : State) (b : BankNo) : (s.refreshTimersOf b).irq = s.irq := rfl
@[simp] theorem refreshTimersOf_mode (s : State) (b : BankNo) : (s.refreshTimersOf b).mode = s.mode := rfl
@[simp] theorem refreshTimersOf_regs (s : State) (b : BankNo) : (s.refreshTimersOf b).regs = s.regs := rfl
@[simp] theorem refreshTimersOf_clock (s : State) (b : BankNo) : (s.refreshTimersOf b).clock = s.clock := rfl
@[simp] theorem refreshTimersOf_pins (s : State) (b : BankNo) : (s.refreshTimersOf b).pins = s.pins := rfl
@[simp] theorem refreshTimersOf_mgmt (s : State) (b : BankNo) : (s.refreshTimersOf b).mgmt = s.mgmt := rfl
@[simp] theorem refreshTimersOf_out (s : State) (b : BankNo) : (s.refreshTimersOf b).out = s.out := rfl
@[simp] theorem refreshTimersOf_pending (s : State) (b : BankNo) : (s.refreshTimersOf b).pending = s.pending := rfl
@[simp] theorem refreshTimersOf_awaitRise (s : State) (b : BankNo) : (s.refreshTimersOf b).awaitRise = s.awaitRise := rfl

/-! What the plain updates write. -/

@[simp] theorem respond_out (s : State) (r : Request) (code : Code) (data : List Word) :
    (s.respond r code data).out = { s.out with responses := s.out.responses ++ [⟨r.initiator, r.tag, code, data⟩] } := rfl

@[simp] theorem reply_mgmt (s : State) (n : Nat) (st : MgmtStatus) (res : List Byte) :
    (s.reply n st res).mgmt = some ⟨n, st, res, false⟩ := rfl

@[simp] theorem setBank_banks (s : State) (b : BankNo) (f : BankRecord → BankRecord) :
    (s.setBank b f).banks = updAt s.banks b f := rfl

@[simp] theorem setCauses_causes (s : State) (b : BankNo) (f : DrainCauses → DrainCauses) :
    (s.setCauses b f).causes = updAt s.causes b f := rfl

@[simp] theorem appendEntry_queue (s : State) (r : Request) (st : EntryStatus) :
    (s.appendEntry r st).queue = s.queue ++ [⟨r, st⟩] := rfl

@[simp] theorem removeEntry_queue (s : State) (k : Nat) : (s.removeEntry k).queue = s.queue.eraseIdx k := rfl

@[simp] theorem setStatus_queue (s : State) (k : Nat) (st : EntryStatus) :
    (s.setStatus k st).queue = s.queue.modify k fun e => { e with status := st } := rfl

@[simp] theorem setTurn_inFlight (s : State) (t : Turn) : (s.setTurn t).port.inFlight = s.port.inFlight := rfl

@[simp] theorem issue_opNumber (s : State) (k : OpKind) (b : BankNo) (a : ByteAddr) (n : Nat) (p : Presenter) (op : MemOp) :
    (s.issue k b a n p op).port.opNumber = s.port.opNumber + 1 := rfl

@[simp] theorem setClearPending_queue_eq (s : State) (b : BankNo) (v : Bool) :
    (s.setClearPending b v).clear.queue = s.clear.queue := rfl

@[simp] theorem requestLevel_banks (s : State) (b : BankNo) (l : Level) (st : BankState) :
    (s.requestLevel b l st).banks = updAt s.banks b fun k =>
      { k with state := st, request := l, settleTimer := .start s.regs.settleLimit.toNat, idleTimer := .stopped,
               offTimer := .stopped, pendingWake := false } := rfl

end Machine.State
end Sys2Proof
end

