-- ==== Sys2Proof/Laws/EndStep.lean ====
section
/-! SUPPORT. Everything that the end of an event (`State.finish`) can do, said once: it is a chain of the small steps of
`EndStep`, each with what is known when it is taken. -/

namespace Sys2Proof.Machine

open Relation

/-- What an outcome that changes the store may rely on: the judgement that gave it (R43, R45). -/
def Justified (s : State) (r : Request) (v : Verdict) : Prop :=
  match v with
  | .merged i => s.store.lookup r.line = some i ∧ s.decodeFault r = false ∧ r.isZeroEnable = false ∧
      s.frozen r.bank = false ∧ (s.bankState r.bank).isStuck = false
  | .allocated i => s.store.lookup r.line = none ∧ s.store.slots[i] = none ∧ (s.bankState r.bank).mayAllocate = true ∧
      s.decodeFault r = false ∧ r.isZeroEnable = false ∧ r.isWrite = true ∧ s.mode = .normal ∧ s.frozen r.bank = false
  | .served i => s.servingSlot r = some i
  | .refused _ => True
  | .noEffect => True
  | .forwarded => True
  | .held _ => True

/-- Every cause of one set is in the other. -/
def DrainCauses.Sub (c d : DrainCauses) : Prop :=
  (c.age = true → d.age = true) ∧ (c.pressure = true → d.pressure = true) ∧ (c.flush = true → d.flush = true) ∧
    (c.warn = true → d.warn = true)

/-- One small step of the end of an event. -/
inductive EndStep : State → State → Prop where
  /-- A response leaves the S port. -/
  | respond (s : State) (r : Request) (code : Code) (data : List Word) : EndStep s (s.respond r code data)
  /-- A read is served. -/
  | serve (s : State) :
      EndStep s { s with store := { s.store with servedReads := s.store.servedReads + 1 } }
  /-- A write merges into the slot of its line. -/
  | merge (s : State) (i : SlotNo) (r : Request) (h : Justified s r (.merged i)) :
      EndStep s { s with store := s.store.merge i r }
  /-- A write takes a FREE slot. -/
  | allocate (s : State) (i : SlotNo) (r : Request) (h : Justified s r (.allocated i)) :
      EndStep s { s with store := s.store.allocate i r s.clock.msTime }
  /-- A pending clear is withdrawn. -/
  | withdraw (s : State) (b : BankNo) : EndStep s (s.setClearPending b false)
  /-- An entry takes a status. -/
  | setStatus (s : State) (k : Nat) (st : EntryStatus) : EndStep s (s.setStatus k st)
  /-- An entry leaves the queue. -/
  | removeEntry (s : State) (k : Nat) : EndStep s (s.removeEntry k)
  /-- A bank at rest wakes. -/
  | wake (s : State) (b : BankNo) (o : Rest) (hf : s.fitted b = true) (h : s.bankState b = o.state) :
      EndStep s (s.wake b o)
  /-- A descending bank gets its pending wake. -/
  | pendWake (s : State) (b : BankNo) (t : Rest) (h : s.bankState b = .descending t) :
      EndStep s (s.setBank b fun k => { k with pendingWake := true })
  /-- AGE or PRESSURE joins the set of a bank that holds lines; PRESSURE only while no bank holds it. -/
  | cause (s : State) (b : BankNo) (f : DrainCauses → DrainCauses) (hm : ∀ c : DrainCauses, c.Sub (f c))
      (hk : ∀ c, (f c).flush = c.flush ∧ (f c).warn = c.warn) (hl : s.lineCount b ≠ 0)
      (hp : ∀ c, (f c).pressure = true → c.pressure = true ∨ s.hasPressureBank = false) :
      EndStep s (s.setCauses b f)
  /-- The M port is granted to a READY entry of an ACTIVE bank. -/
  | grantEntry (s : State) (k : Nat) (hr : s.pins.resetn = false) (hf : s.port.inFlight = none)
      (h : s.readyEntry = some k) : EndStep s (s.grantEntry k)
  /-- The M port is granted to the drain of a HELD line of an ACTIVE bank. -/
  | grantDrain (s : State) (i : SlotNo) (cls : DrainClass) (hr : s.pins.resetn = false) (hf : s.port.inFlight = none)
      (h : s.isCandidate false i = true) : EndStep s (s.grantDrain i cls)
  /-- The M port is granted to the zero-line write of a CLEARING bank. -/
  | grantZeroLine (s : State) (b : BankNo) (hr : s.pins.resetn = false) (hf : s.port.inFlight = none)
      (h : s.zeroLineOffer = some b) : EndStep s (s.grantZeroLine b)
  /-- The timers of a bank follow their conditions. -/
  | timers (s : State) (b : BankNo) : EndStep s (s.refreshTimersOf b)
  /-- The SAFE cause is latched. -/
  | latch (s : State) : EndStep s { s with irq := { s.irq with safe := true } }

/-- A chain of small steps. -/
abbrev EndSteps : State → State → Prop := ReflTransGen EndStep

namespace State

theorem lookup_some {st : LineStore} {a : LineAddr} {i : SlotNo} (h : st.lookup a = some i) :
    ∃ l, st.slots[i] = some l ∧ l.addr = a := by
  have := List.find?_some h
  simp only [slotHolds] at this
  split at this
  · exact ⟨_, ‹_›, by simpa using this⟩
  · cases this

theorem lookup_none {st : LineStore} {a : LineAddr} (h : st.lookup a = none) (i : SlotNo) (l : Line)
    (hl : st.slots[i] = some l) : l.addr ≠ a := by
  have := List.find?_eq_none.mp h i (List.mem_finRange i)
  simpa [slotHolds, hl] using this

theorem lowestFree_some {st : LineStore} {i : SlotNo} (h : st.lowestFree = some i) : st.slots[i] = none := by
  have := List.find?_some h
  simpa using this

theorem allocatingSlot_some {s : State} {r : Request} {i : SlotNo} (h : s.allocatingSlot r = some i) :
    s.store.slots[i] = none ∧ (s.bankState r.bank).mayAllocate = true ∧ s.mode = .normal := by
  unfold allocatingSlot at h
  split at h
  next hc =>
    simp only [Bool.and_eq_true, beq_iff_eq] at hc
    exact ⟨lowestFree_some h, hc.1.2, hc.1.1.2⟩
  · cases h

/-- The judgement justifies the outcome it gives. -/
theorem judge_justified (s : State) (r : Request) : Justified s r (s.judge r) := by
  unfold judge
  split
  · trivial
  next hd =>
  split
  · trivial
  next hz =>
  split
  next i hs => exact hs
  next hs =>
  split
  · trivial
  next hfz =>
  split
  · trivial
  next hst =>
  split
  next hw =>
    unfold judgeWrite
    split
    next i hl => exact ⟨hl, by simpa using hd, by simpa using hz, by simpa using hfz, by simpa using hst⟩
    next hl =>
      split
      · trivial
      · split
        next i ha =>
          obtain ⟨h1, h2, h3⟩ := allocatingSlot_some ha
          exact ⟨hl, h1, h2, by simpa using hd, by simpa using hz, hw, h3, by simpa using hfz⟩
        · trivial
  · unfold judgeRead
    split
    · split <;> trivial
    · trivial

/-- A wake demand wakes a bank at rest or marks a descending one; nothing else. -/
theorem demand_steps (s : State) (b : BankNo) : EndSteps s (s.demand b) := by
  unfold demand
  split
  next hf =>
    split
    next h => exact .single (.wake s b .off hf h)
    next h => exact .single (.wake s b .retain hf h)
    next t h => exact .single (.pendWake s b t h)
    all_goals exact .refl
  · exact .refl

/-- Adding a cause. -/
theorem addCause_steps (s : State) (b : BankNo) (f : DrainCauses → DrainCauses) (hm : ∀ c : DrainCauses, c.Sub (f c))
    (hk : ∀ c, (f c).flush = c.flush ∧ (f c).warn = c.warn)
    (hp : ∀ c, (f c).pressure = true → c.pressure = true ∨ s.hasPressureBank = false) :
    EndSteps s (s.addCause b f) := by
  unfold addCause
  split
  · exact .refl
  next hl =>
    split
    · exact .single (.cause s b f hm hk hl hp)
    · exact .head (.cause s b f hm hk hl hp) (demand_steps _ b)

/-- The effect of a justified outcome. -/
theorem perform_steps (s : State) (r : Request) (v : Verdict) (h : Justified s r v) : EndSteps s (s.perform r v) := by
  cases v with
  | refused code => exact .single (.respond s r code [])
  | noEffect => exact .single (.respond s r .ok [])
  | served i => exact .head (.serve s) (.single (.respond _ r .ok _))
  | merged i => exact .head (.merge s i r h) (.single (.respond _ r .ok _))
  | allocated i => exact .head (.allocate s i r h) (.head (.withdraw _ r.bank) (.single (.respond _ r .ok _)))
  | forwarded => exact .refl
  | held reason =>
    cases reason with
    | bank => exact demand_steps s r.bank
    | frozen => exact .refl
    | order => exact .refl

theorem firstEvaluation_answered (s : State) (r : Request) (h : (s.judge r).entryStatus = none) :
    s.firstEvaluation r = s.perform r (s.judge r) := by simp only [firstEvaluation, h]

theorem firstEvaluation_entered (s : State) (r : Request) (st : EntryStatus) (h : (s.judge r).entryStatus = some st) :
    s.firstEvaluation r = (s.appendEntry r st).perform r (s.judge r) := by simp only [firstEvaluation, h]

/-- A re-evaluation. -/
theorem reevaluate_steps (s : State) (k : Nat) (e : Entry) : EndSteps s (s.reevaluate k e) := by
  have hj := s.judge_justified e.request
  unfold reevaluate
  dsimp only
  split
  · exact .head (.setStatus s k _) (perform_steps _ _ _ hj)
  · exact .head (.removeEntry s k) (perform_steps _ _ _ hj)

/-- The answer of an entry. -/
theorem answerEntry_steps (s : State) (k : Nat) (e : Entry) (code : Code) (data : List Word) :
    EndSteps s (s.answerEntry k e code data) :=
  .head (.removeEntry s k) (.single (.respond _ e.request code data))

end State

/-- A sweep of the queue. -/
theorem sweep_steps (rule : State → Nat → Entry → Visit) (fuel k : Nat) (s : State) :
    EndSteps s (sweep rule fuel k s) := by
  induction fuel generalizing k s with
  | zero => exact .refl
  | succ n ih =>
    unfold sweep
    split
    · exact .refl
    · split
      · exact ih _ _
      · exact (State.answerEntry_steps s k _ .eBank []).trans (ih _ _)
      · split
        · exact (State.reevaluate_steps s k _).trans (ih _ _)
        · exact (State.reevaluate_steps s k _).trans (ih _ _)

/-- A fold of operations, each of which is a chain of small steps. -/
theorem foldl_steps {α : Type} (f : State → α → State) (hf : ∀ s a, EndSteps s (f s a)) (l : List α) (s : State) :
    EndSteps s (l.foldl f s) := by
  induction l generalizing s with
  | nil => exact .refl
  | cons a l ih => exact (hf s a).trans (ih _)

namespace State

theorem releaseWalks_steps (n : Nat) (s : State) : EndSteps s (releaseWalks n s) := by
  induction n generalizing s with
  | zero => exact .refl
  | succ n ih =>
    have h : EndSteps s s.releaseWalk := sweep_steps ..
    unfold releaseWalks
    dsimp only
    split
    · exact h.trans (ih _)
    · exact h

theorem runQueue_steps (pre : State) (released : Bool) (s : State) : EndSteps s (runQueue pre released s) := by
  have h : EndSteps s (freezeReevaluation pre s) := sweep_steps ..
  unfold runQueue
  dsimp only
  split
  · exact h.trans (releaseWalks_steps _ _)
  · exact h

theorem takeAgeExpiries_steps (pre s : State) : EndSteps s (takeAgeExpiries pre s) := by
  refine foldl_steps _ (fun t b => ?_) _ s
  split
  · exact addCause_steps t b _ (fun _ => ⟨fun _ => rfl, id, id, id⟩) (fun _ => ⟨rfl, rfl⟩) fun c h => .inl h
  · exact .refl

theorem pressureChoice_steps (s : State) : EndSteps s s.pressureChoice := by
  unfold pressureChoice
  split
  next hc =>
    dsimp only
    split
    · exact addCause_steps s _ _ (fun _ => ⟨id, fun _ => rfl, id, id⟩) (fun _ => ⟨rfl, rfl⟩) fun c _ => .inr (by simpa using (Bool.and_eq_true_iff.mp hc).2)
    · exact .refl
  · exact .refl

/-- Whatever the Arbiter chooses is work that may be granted (R124). -/
theorem choice_entry {s : State} {k : Nat} (h : s.choice = some (.entry k)) : s.readyEntry = some k := by
  unfold choice at h
  split at h
  all_goals first
    | (cases h <;> assumption)
    | (split at h <;> cases h <;> assumption)
    | (obtain ⟨c, -, he⟩ := Option.map_eq_some_iff.mp h; cases he)

theorem drainOffer_candidate {s : State} {i : SlotNo} {cls : DrainClass} (h : s.drainOffer = some (i, cls)) :
    s.isCandidate false i = true := by
  have weaken : ∀ i, s.isCandidate true i = true → s.isCandidate false i = true := by
    intro i hi
    unfold isCandidate at hi ⊢
    split <;> simp_all
  unfold drainOffer at h
  split at h
  · obtain ⟨j, hj, he⟩ := Option.map_eq_some_iff.mp h
    cases he
    exact List.find?_some hj
  · obtain ⟨j, hj, he⟩ := Option.map_eq_some_iff.mp h
    cases he
    exact List.find?_some hj
  · split at h
    next j hj =>
      cases h
      exact weaken _ (List.find?_some hj)
    · obtain ⟨j, hj, he⟩ := Option.map_eq_some_iff.mp h
      cases he
      exact List.find?_some hj

theorem choice_drain {s : State} {i : SlotNo} {cls : DrainClass} (h : s.choice = some (.drain i cls)) :
    s.drainOffer = some (i, cls) := by
  unfold choice at h
  split at h
  all_goals first
    | (cases h <;> assumption)
    | (split at h <;> cases h <;> assumption)
    | (obtain ⟨c, -, he⟩ := Option.map_eq_some_iff.mp h; cases he)

theorem choice_zeroLine {s : State} {b : BankNo} (h : s.choice = some (.zeroLine b)) : s.zeroLineOffer = some b := by
  unfold choice at h
  split at h
  all_goals first
    | cases h
    | (split at h <;> cases h)
    | skip
  obtain ⟨c, hc, he⟩ := Option.map_eq_some_iff.mp h
  cases he
  exact hc

theorem grant_steps (s : State) : EndSteps s s.grant := by
  unfold grant
  split
  · exact .refl
  next hc =>
    have hr : s.pins.resetn = false := by cases h : s.pins.resetn <;> simp_all
    have hf : s.port.inFlight = none := by cases h : s.port.inFlight <;> simp_all
    split
    next k h => exact .single (.grantEntry s k hr hf (choice_entry h))
    next i cls h => exact .single (.grantDrain s i cls hr hf (drainOffer_candidate (choice_drain h)))
    next b h => exact .single (.grantZeroLine s b hr hf (choice_zeroLine h))
    · exact .refl

theorem refreshTimers_steps (s : State) : EndSteps s s.refreshTimers :=
  foldl_steps _ (fun t b => .single (.timers t b)) _ s

theorem latchSafe_steps (pre s : State) : EndSteps s (latchSafe pre s) := by
  unfold latchSafe
  split
  · exact .single (.latch s)
  · exact .refl

theorem untilGrant_steps (s pre : State) (released : Bool) : EndSteps s (s.untilGrant pre released) :=
  (runQueue_steps pre released s).trans <| (takeAgeExpiries_steps pre _).trans (pressureChoice_steps _)

theorem afterGrant_steps (s pre : State) : EndSteps s (s.afterGrant pre) :=
  (refreshTimers_steps _).trans (latchSafe_steps pre _)

/-- What follows the effect of an event is a chain of small steps. -/
theorem finish_steps (s pre : State) (released : Bool) : EndSteps s (s.finish pre released) :=
  (untilGrant_steps s pre released).trans <| (grant_steps _).trans (afterGrant_steps _ pre)

/-- So is what follows a completion. -/
theorem finishCompletion_steps (s pre : State) (released : Bool) : EndSteps s (s.finishCompletion pre released) := by
  unfold finishCompletion
  split
  · exact (untilGrant_steps s pre released).trans (afterGrant_steps _ pre)
  · exact finish_steps s pre released

end State
end Sys2Proof.Machine
end

