-- ==== Sys2Proof/Laws/Ops.lean ====
section
/-! SUPPORT. The shared operations: for each, the fields it leaves alone, and what it writes. -/

namespace Sys2Proof.Machine.State

@[simp] theorem settleWaking_store (s : State) (b : BankNo) (o : Rest) : (s.settleWaking b o).store = s.store := by
  unfold settleWaking; split <;> (try dsimp only) <;> split <;> rfl
@[simp] theorem settleWaking_regions (s : State) (b : BankNo) (o : Rest) : (s.settleWaking b o).regions = s.regions := by
  unfold settleWaking; split <;> (try dsimp only) <;> split <;> rfl
@[simp] theorem settleWaking_queue (s : State) (b : BankNo) (o : Rest) : (s.settleWaking b o).queue = s.queue := by
  unfold settleWaking; split <;> (try dsimp only) <;> split <;> rfl
@[simp] theorem settleWaking_causes (s : State) (b : BankNo) (o : Rest) : (s.settleWaking b o).causes = s.causes := by
  unfold settleWaking; split <;> (try dsimp only) <;> split <;> rfl
@[simp] theorem settleWaking_port (s : State) (b : BankNo) (o : Rest) : (s.settleWaking b o).port = s.port := by
  unfold settleWaking; split <;> (try dsimp only) <;> split <;> rfl
@[simp] theorem settleWaking_faults (s : State) (b : BankNo) (o : Rest) : (s.settleWaking b o).faults = s.faults := by
  unfold settleWaking; split <;> (try dsimp only) <;> split <;> rfl
@[simp] theorem settleWaking_mode (s : State) (b : BankNo) (o : Rest) : (s.settleWaking b o).mode = s.mode := by
  unfold settleWaking; split <;> (try dsimp only) <;> split <;> rfl
@[simp] theorem settleWaking_regs (s : State) (b : BankNo) (o : Rest) : (s.settleWaking b o).regs = s.regs := by
  unfold settleWaking; split <;> (try dsimp only) <;> split <;> rfl
@[simp] theorem settleWaking_clock (s : State) (b : BankNo) (o : Rest) : (s.settleWaking b o).clock = s.clock := by
  unfold settleWaking; split <;> (try dsimp only) <;> split <;> rfl
@[simp] theorem settleWaking_pins (s : State) (b : BankNo) (o : Rest) : (s.settleWaking b o).pins = s.pins := by
  unfold settleWaking; split <;> (try dsimp only) <;> split <;> rfl
@[simp] theorem settleWaking_mgmt (s : State) (b : BankNo) (o : Rest) : (s.settleWaking b o).mgmt = s.mgmt := by
  unfold settleWaking; split <;> (try dsimp only) <;> split <;> rfl
@[simp] theorem settleWaking_out (s : State) (b : BankNo) (o : Rest) : (s.settleWaking b o).out = s.out := by
  unfold settleWaking; split <;> (try dsimp only) <;> split <;> rfl
@[simp] theorem settleWaking_pending (s : State) (b : BankNo) (o : Rest) : (s.settleWaking b o).pending = s.pending := by
  unfold settleWaking; split <;> (try dsimp only) <;> split <;> rfl
@[simp] theorem settleWaking_awaitRise (s : State) (b : BankNo) (o : Rest) : (s.settleWaking b o).awaitRise = s.awaitRise := by
  unfold settleWaking; split <;> (try dsimp only) <;> split <;> rfl

@[simp] theorem wake_store (s : State) (b : BankNo) (o : Rest) : (s.wake b o).store = s.store := by
  unfold wake; dsimp only; split <;> simp
@[simp] theorem wake_regions (s : State) (b : BankNo) (o : Rest) : (s.wake b o).regions = s.regions := by
  unfold wake; dsimp only; split <;> simp
@[simp] theorem wake_queue (s : State) (b : BankNo) (o : Rest) : (s.wake b o).queue = s.queue := by
  unfold wake; dsimp only; split <;> simp
@[simp] theorem wake_causes (s : State) (b : BankNo) (o : Rest) : (s.wake b o).causes = s.causes := by
  unfold wake; dsimp only; split <;> simp
@[simp] theorem wake_port (s : State) (b : BankNo) (o : Rest) : (s.wake b o).port = s.port := by
  unfold wake; dsimp only; split <;> simp
@[simp] theorem wake_faults (s : State) (b : BankNo) (o : Rest) : (s.wake b o).faults = s.faults := by
  unfold wake; dsimp only; split <;> simp
@[simp] theorem wake_mode (s : State) (b : BankNo) (o : Rest) : (s.wake b o).mode = s.mode := by
  unfold wake; dsimp only; split <;> simp
@[simp] theorem wake_regs (s : State) (b : BankNo) (o : Rest) : (s.wake b o).regs = s.regs := by
  unfold wake; dsimp only; split <;> simp
@[simp] theorem wake_clock (s : State) (b : BankNo) (o : Rest) : (s.wake b o).clock = s.clock := by
  unfold wake; dsimp only; split <;> simp
@[simp] theorem wake_pins (s : State) (b : BankNo) (o : Rest) : (s.wake b o).pins = s.pins := by
  unfold wake; dsimp only; split <;> simp
@[simp] theorem wake_mgmt (s : State) (b : BankNo) (o : Rest) : (s.wake b o).mgmt = s.mgmt := by
  unfold wake; dsimp only; split <;> simp
@[simp] theorem wake_out (s : State) (b : BankNo) (o : Rest) : (s.wake b o).out = s.out := by
  unfold wake; dsimp only; split <;> simp
@[simp] theorem wake_pending (s : State) (b : BankNo) (o : Rest) : (s.wake b o).pending = s.pending := by
  unfold wake; dsimp only; split <;> simp
@[simp] theorem wake_awaitRise (s : State) (b : BankNo) (o : Rest) : (s.wake b o).awaitRise = s.awaitRise := by
  unfold wake; dsimp only; split <;> simp

@[simp] theorem settleDescending_store (s : State) (b : BankNo) (t : Rest) : (s.settleDescending b t).store = s.store := by
  unfold settleDescending; dsimp only; split <;> simp
@[simp] theorem settleDescending_regions (s : State) (b : BankNo) (t : Rest) : (s.settleDescending b t).regions = s.regions := by
  unfold settleDescending; dsimp only; split <;> simp
@[simp] theorem settleDescending_queue (s : State) (b : BankNo) (t : Rest) : (s.settleDescending b t).queue = s.queue := by
  unfold settleDescending; dsimp only; split <;> simp
@[simp] theorem settleDescending_causes (s : State) (b : BankNo) (t : Rest) : (s.settleDescending b t).causes = s.causes := by
  unfold settleDescending; dsimp only; split <;> simp
@[simp] theorem settleDescending_port (s : State) (b : BankNo) (t : Rest) : (s.settleDescending b t).port = s.port := by
  unfold settleDescending; dsimp only; split <;> simp
@[simp] theorem settleDescending_faults (s : State) (b : BankNo) (t : Rest) : (s.settleDescending b t).faults = s.faults := by
  unfold settleDescending; dsimp only; split <;> simp
@[simp] theorem settleDescending_mode (s : State) (b : BankNo) (t : Rest) : (s.settleDescending b t).mode = s.mode := by
  unfold settleDescending; dsimp only; split <;> simp
@[simp] theorem settleDescending_regs (s : State) (b : BankNo) (t : Rest) : (s.settleDescending b t).regs = s.regs := by
  unfold settleDescending; dsimp only; split <;> simp
@[simp] theorem settleDescending_clock (s : State) (b : BankNo) (t : Rest) : (s.settleDescending b t).clock = s.clock := by
  unfold settleDescending; dsimp only; split <;> simp
@[simp] theorem settleDescending_pins (s : State) (b : BankNo) (t : Rest) : (s.settleDescending b t).pins = s.pins := by
  unfold settleDescending; dsimp only; split <;> simp
@[simp] theorem settleDescending_mgmt (s : State) (b : BankNo) (t : Rest) : (s.settleDescending b t).mgmt = s.mgmt := by
  unfold settleDescending; dsimp only; split <;> simp
@[simp] theorem settleDescending_out (s : State) (b : BankNo) (t : Rest) : (s.settleDescending b t).out = s.out := by
  unfold settleDescending; dsimp only; split <;> simp
@[simp] theorem settleDescending_pending (s : State) (b : BankNo) (t : Rest) : (s.settleDescending b t).pending = s.pending := by
  unfold settleDescending; dsimp only; split <;> simp
@[simp] theorem settleDescending_awaitRise (s : State) (b : BankNo) (t : Rest) : (s.settleDescending b t).awaitRise = s.awaitRise := by
  unfold settleDescending; dsimp only; split <;> simp

@[simp] theorem descend_store (s : State) (b : BankNo) (t : Rest) : (s.descend b t).store = s.store := by
  unfold descend; dsimp only; split <;> simp
@[simp] theorem descend_regions (s : State) (b : BankNo) (t : Rest) : (s.descend b t).regions = s.regions := by
  unfold descend; dsimp only; split <;> simp
@[simp] theorem descend_queue (s : State) (b : BankNo) (t : Rest) : (s.descend b t).queue = s.queue := by
  unfold descend; dsimp only; split <;> simp
@[simp] theorem descend_causes (s : State) (b : BankNo) (t : Rest) : (s.descend b t).causes = s.causes := by
  unfold descend; dsimp only; split <;> simp
@[simp] theorem descend_port (s : State) (b : BankNo) (t : Rest) : (s.descend b t).port = s.port := by
  unfold descend; dsimp only; split <;> simp
@[simp] theorem descend_faults (s : State) (b : BankNo) (t : Rest) : (s.descend b t).faults = s.faults := by
  unfold descend; dsimp only; split <;> simp
@[simp] theorem descend_mode (s : State) (b : BankNo) (t : Rest) : (s.descend b t).mode = s.mode := by
  unfold descend; dsimp only; split <;> simp
@[simp] theorem descend_regs (s : State) (b : BankNo) (t : Rest) : (s.descend b t).regs = s.regs := by
  unfold descend; dsimp only; split <;> simp
@[simp] theorem descend_clock (s : State) (b : BankNo) (t : Rest) : (s.descend b t).clock = s.clock := by
  unfold descend; dsimp only; split <;> simp
@[simp] theorem descend_pins (s : State) (b : BankNo) (t : Rest) : (s.descend b t).pins = s.pins := by
  unfold descend; dsimp only; split <;> simp
@[simp] theorem descend_mgmt (s : State) (b : BankNo) (t : Rest) : (s.descend b t).mgmt = s.mgmt := by
  unfold descend; dsimp only; split <;> simp
@[simp] theorem descend_out (s : State) (b : BankNo) (t : Rest) : (s.descend b t).out = s.out := by
  unfold descend; dsimp only; split <;> simp
@[simp] theorem descend_pending (s : State) (b : BankNo) (t : Rest) : (s.descend b t).pending = s.pending := by
  unfold descend; dsimp only; split <;> simp
@[simp] theorem descend_awaitRise (s : State) (b : BankNo) (t : Rest) : (s.descend b t).awaitRise = s.awaitRise := by
  unfold descend; dsimp only; split <;> simp

@[simp] theorem demand_store (s : State) (b : BankNo) : (s.demand b).store = s.store := by
  unfold demand; split <;> (try split) <;> simp
@[simp] theorem demand_regions (s : State) (b : BankNo) : (s.demand b).regions = s.regions := by
  unfold demand; split <;> (try split) <;> simp
@[simp] theorem demand_queue (s : State) (b : BankNo) : (s.demand b).queue = s.queue := by
  unfold demand; split <;> (try split) <;> simp
@[simp] theorem demand_causes (s : State) (b : BankNo) : (s.demand b).causes = s.causes := by
  unfold demand; split <;> (try split) <;> simp
@[simp] theorem demand_port (s : State) (b : BankNo) : (s.demand b).port = s.port := by
  unfold demand; split <;> (try split) <;> simp
@[simp] theorem demand_faults (s : State) (b : BankNo) : (s.demand b).faults = s.faults := by
  unfold demand; split <;> (try split) <;> simp
@[simp] theorem demand_mode (s : State) (b : BankNo) : (s.demand b).mode = s.mode := by
  unfold demand; split <;> (try split) <;> simp
@[simp] theorem demand_regs (s : State) (b : BankNo) : (s.demand b).regs = s.regs := by
  unfold demand; split <;> (try split) <;> simp
@[simp] theorem demand_clock (s : State) (b : BankNo) : (s.demand b).clock = s.clock := by
  unfold demand; split <;> (try split) <;> simp
@[simp] theorem demand_pins (s : State) (b : BankNo) : (s.demand b).pins = s.pins := by
  unfold demand; split <;> (try split) <;> simp
@[simp] theorem demand_mgmt (s : State) (b : BankNo) : (s.demand b).mgmt = s.mgmt := by
  unfold demand; split <;> (try split) <;> simp
@[simp] theorem demand_out (s : State) (b : BankNo) : (s.demand b).out = s.out := by
  unfold demand; split <;> (try split) <;> simp
@[simp] theorem demand_pending (s : State) (b : BankNo) : (s.demand b).pending = s.pending := by
  unfold demand; split <;> (try split) <;> simp
@[simp] theorem demand_awaitRise (s : State) (b : BankNo) : (s.demand b).awaitRise = s.awaitRise := by
  unfold demand; split <;> (try split) <;> simp

@[simp] theorem addCause_store (s : State) (b : BankNo) (f : DrainCauses → DrainCauses) : (s.addCause b f).store = s.store := by
  unfold addCause; split <;> (try split) <;> simp
@[simp] theorem addCause_regions (s : State) (b : BankNo) (f : DrainCauses → DrainCauses) : (s.addCause b f).regions = s.regions := by
  unfold addCause; split <;> (try split) <;> simp
@[simp] theorem addCause_queue (s : State) (b : BankNo) (f : DrainCauses → DrainCauses) : (s.addCause b f).queue = s.queue := by
  unfold addCause; split <;> (try split) <;> simp
@[simp] theorem addCause_port (s : State) (b : BankNo) (f : DrainCauses → DrainCauses) : (s.addCause b f).port = s.port := by
  unfold addCause; split <;> (try split) <;> simp
@[simp] theorem addCause_faults (s : State) (b : BankNo) (f : DrainCauses → DrainCauses) : (s.addCause b f).faults = s.faults := by
  unfold addCause; split <;> (try split) <;> simp
@[simp] theorem addCause_mode (s : State) (b : BankNo) (f : DrainCauses → DrainCauses) : (s.addCause b f).mode = s.mode := by
  unfold addCause; split <;> (try split) <;> simp
@[simp] theorem addCause_regs (s : State) (b : BankNo) (f : DrainCauses → DrainCauses) : (s.addCause b f).regs = s.regs := by
  unfold addCause; split <;> (try split) <;> simp
@[simp] theorem addCause_clock (s : State) (b : BankNo) (f : DrainCauses → DrainCauses) : (s.addCause b f).clock = s.clock := by
  unfold addCause; split <;> (try split) <;> simp
@[simp] theorem addCause_pins (s : State) (b : BankNo) (f : DrainCauses → DrainCauses) : (s.addCause b f).pins = s.pins := by
  unfold addCause; split <;> (try split) <;> simp
@[simp] theorem addCause_mgmt (s : State) (b : BankNo) (f : DrainCauses → DrainCauses) : (s.addCause b f).mgmt = s.mgmt := by
  unfold addCause; split <;> (try split) <;> simp
@[simp] theorem addCause_out (s : State) (b : BankNo) (f : DrainCauses → DrainCauses) : (s.addCause b f).out = s.out := by
  unfold addCause; split <;> (try split) <;> simp
@[simp] theorem addCause_pending (s : State) (b : BankNo) (f : DrainCauses → DrainCauses) : (s.addCause b f).pending = s.pending := by
  unfold addCause; split <;> (try split) <;> simp
@[simp] theorem addCause_awaitRise (s : State) (b : BankNo) (f : DrainCauses → DrainCauses) : (s.addCause b f).awaitRise = s.awaitRise := by
  unfold addCause; split <;> (try split) <;> simp

@[simp] theorem afterFreeing_store (s : State) (b : BankNo) : (s.afterFreeing b).store = s.store := by
  unfold afterFreeing; dsimp only; split <;> split <;> rfl
@[simp] theorem afterFreeing_regions (s : State) (b : BankNo) : (s.afterFreeing b).regions = s.regions := by
  unfold afterFreeing; dsimp only; split <;> split <;> rfl
@[simp] theorem afterFreeing_queue (s : State) (b : BankNo) : (s.afterFreeing b).queue = s.queue := by
  unfold afterFreeing; dsimp only; split <;> split <;> rfl
@[simp] theorem afterFreeing_banks (s : State) (b : BankNo) : (s.afterFreeing b).banks = s.banks := by
  unfold afterFreeing; dsimp only; split <;> split <;> rfl
@[simp] theorem afterFreeing_port (s : State) (b : BankNo) : (s.afterFreeing b).port = s.port := by
  unfold afterFreeing; dsimp only; split <;> split <;> rfl
@[simp] theorem afterFreeing_clear (s : State) (b : BankNo) : (s.afterFreeing b).clear = s.clear := by
  unfold afterFreeing; dsimp only; split <;> split <;> rfl
@[simp] theorem afterFreeing_faults (s : State) (b : BankNo) : (s.afterFreeing b).faults = s.faults := by
  unfold afterFreeing; dsimp only; split <;> split <;> rfl
@[simp] theorem afterFreeing_irq (s : State) (b : BankNo) : (s.afterFreeing b).irq = s.irq := by
  unfold afterFreeing; dsimp only; split <;> split <;> rfl
@[simp] theorem afterFreeing_regs (s : State) (b : BankNo) : (s.afterFreeing b).regs = s.regs := by
  unfold afterFreeing; dsimp only; split <;> split <;> rfl
@[simp] theorem afterFreeing_clock (s : State) (b : BankNo) : (s.afterFreeing b).clock = s.clock := by
  unfold afterFreeing; dsimp only; split <;> split <;> rfl
@[simp] theorem afterFreeing_pins (s : State) (b : BankNo) : (s.afterFreeing b).pins = s.pins := by
  unfold afterFreeing; dsimp only; split <;> split <;> rfl
@[simp] theorem afterFreeing_mgmt (s : State) (b : BankNo) : (s.afterFreeing b).mgmt = s.mgmt := by
  unfold afterFreeing; dsimp only; split <;> split <;> rfl
@[simp] theorem afterFreeing_out (s : State) (b : BankNo) : (s.afterFreeing b).out = s.out := by
  unfold afterFreeing; dsimp only; split <;> split <;> rfl
@[simp] theorem afterFreeing_pending (s : State) (b : BankNo) : (s.afterFreeing b).pending = s.pending := by
  unfold afterFreeing; dsimp only; split <;> split <;> rfl
@[simp] theorem afterFreeing_awaitRise (s : State) (b : BankNo) : (s.afterFreeing b).awaitRise = s.awaitRise := by
  unfold afterFreeing; dsimp only; split <;> split <;> rfl

@[simp] theorem handFault_store (s : State) (rep : FaultReport) : (s.handFault rep).store = s.store := by
  unfold handFault; dsimp only; split <;> rfl
@[simp] theorem handFault_regions (s : State) (rep : FaultReport) : (s.handFault rep).regions = s.regions := by
  unfold handFault; dsimp only; split <;> rfl
@[simp] theorem handFault_queue (s : State) (rep : FaultReport) : (s.handFault rep).queue = s.queue := by
  unfold handFault; dsimp only; split <;> rfl
@[simp] theorem handFault_banks (s : State) (rep : FaultReport) : (s.handFault rep).banks = s.banks := by
  unfold handFault; dsimp only; split <;> rfl
@[simp] theorem handFault_causes (s : State) (rep : FaultReport) : (s.handFault rep).causes = s.causes := by
  unfold handFault; dsimp only; split <;> rfl
@[simp] theorem handFault_port (s : State) (rep : FaultReport) : (s.handFault rep).port = s.port := by
  unfold handFault; dsimp only; split <;> rfl
@[simp] theorem handFault_clear (s : State) (rep : FaultReport) : (s.handFault rep).clear = s.clear := by
  unfold handFault; dsimp only; split <;> rfl
@[simp] theorem handFault_irq (s : State) (rep : FaultReport) : (s.handFault rep).irq = s.irq := by
  unfold handFault; dsimp only; split <;> rfl
@[simp] theorem handFault_mode (s : State) (rep : FaultReport) : (s.handFault rep).mode = s.mode := by
  unfold handFault; dsimp only; split <;> rfl
@[simp] theorem handFault_regs (s : State) (rep : FaultReport) : (s.handFault rep).regs = s.regs := by
  unfold handFault; dsimp only; split <;> rfl
@[simp] theorem handFault_clock (s : State) (rep : FaultReport) : (s.handFault rep).clock = s.clock := by
  unfold handFault; dsimp only; split <;> rfl
@[simp] theorem handFault_pins (s : State) (rep : FaultReport) : (s.handFault rep).pins = s.pins := by
  unfold handFault; dsimp only; split <;> rfl
@[simp] theorem handFault_mgmt (s : State) (rep : FaultReport) : (s.handFault rep).mgmt = s.mgmt := by
  unfold handFault; dsimp only; split <;> rfl
@[simp] theorem handFault_out (s : State) (rep : FaultReport) : (s.handFault rep).out = s.out := by
  unfold handFault; dsimp only; split <;> rfl
@[simp] theorem handFault_pending (s : State) (rep : FaultReport) : (s.handFault rep).pending = s.pending := by
  unfold handFault; dsimp only; split <;> rfl
@[simp] theorem handFault_awaitRise (s : State) (rep : FaultReport) : (s.handFault rep).awaitRise = s.awaitRise := by
  unfold handFault; dsimp only; split <;> rfl

@[simp] theorem judgeHold_store (s : State) (b : BankNo) : (s.judgeHold b).store = s.store := by
  unfold judgeHold; split <;> rfl
@[simp] theorem judgeHold_regions (s : State) (b : BankNo) : (s.judgeHold b).regions = s.regions := by
  unfold judgeHold; split <;> rfl
@[simp] theorem judgeHold_queue (s : State) (b : BankNo) : (s.judgeHold b).queue = s.queue := by
  unfold judgeHold; split <;> rfl
@[simp] theorem judgeHold_banks (s : State) (b : BankNo) : (s.judgeHold b).banks = s.banks := by
  unfold judgeHold; split <;> rfl
@[simp] theorem judgeHold_causes (s : State) (b : BankNo) : (s.judgeHold b).causes = s.causes := by
  unfold judgeHold; split <;> rfl
@[simp] theorem judgeHold_port (s : State) (b : BankNo) : (s.judgeHold b).port = s.port := by
  unfold judgeHold; split <;> rfl
@[simp] theorem judgeHold_clear (s : State) (b : BankNo) : (s.judgeHold b).clear = s.clear := by
  unfold judgeHold; split <;> rfl
@[simp] theorem judgeHold_irq (s : State) (b : BankNo) : (s.judgeHold b).irq = s.irq := by
  unfold judgeHold; split <;> rfl
@[simp] theorem judgeHold_mode (s : State) (b : BankNo) : (s.judgeHold b).mode = s.mode := by
  unfold judgeHold; split <;> rfl
@[simp] theorem judgeHold_regs (s : State) (b : BankNo) : (s.judgeHold b).regs = s.regs := by
  unfold judgeHold; split <;> rfl
@[simp] theorem judgeHold_clock (s : State) (b : BankNo) : (s.judgeHold b).clock = s.clock := by
  unfold judgeHold; split <;> rfl
@[simp] theorem judgeHold_pins (s : State) (b : BankNo) : (s.judgeHold b).pins = s.pins := by
  unfold judgeHold; split <;> rfl
@[simp] theorem judgeHold_mgmt (s : State) (b : BankNo) : (s.judgeHold b).mgmt = s.mgmt := by
  unfold judgeHold; split <;> rfl
@[simp] theorem judgeHold_out (s : State) (b : BankNo) : (s.judgeHold b).out = s.out := by
  unfold judgeHold; split <;> rfl
@[simp] theorem judgeHold_pending (s : State) (b : BankNo) : (s.judgeHold b).pending = s.pending := by
  unfold judgeHold; split <;> rfl
@[simp] theorem judgeHold_awaitRise (s : State) (b : BankNo) : (s.judgeHold b).awaitRise = s.awaitRise := by
  unfold judgeHold; split <;> rfl

@[simp] theorem abandonClear_store (s : State) (b : BankNo) : (s.abandonClear b).store = s.store := by
  unfold abandonClear; dsimp only; split <;> rfl
@[simp] theorem abandonClear_regions (s : State) (b : BankNo) : (s.abandonClear b).regions = s.regions := by
  unfold abandonClear; dsimp only; split <;> rfl
@[simp] theorem abandonClear_queue (s : State) (b : BankNo) : (s.abandonClear b).queue = s.queue := by
  unfold abandonClear; dsimp only; split <;> rfl
@[simp] theorem abandonClear_banks (s : State) (b : BankNo) : (s.abandonClear b).banks = s.banks := by
  unfold abandonClear; dsimp only; split <;> rfl
@[simp] theorem abandonClear_causes (s : State) (b : BankNo) : (s.abandonClear b).causes = s.causes := by
  unfold abandonClear; dsimp only; split <;> rfl
@[simp] theorem abandonClear_port (s : State) (b : BankNo) : (s.abandonClear b).port = s.port := by
  unfold abandonClear; dsimp only; split <;> rfl
@[simp] theorem abandonClear_faults (s : State) (b : BankNo) : (s.abandonClear b).faults = s.faults := by
  unfold abandonClear; dsimp only; split <;> rfl
@[simp] theorem abandonClear_irq (s : State) (b : BankNo) : (s.abandonClear b).irq = s.irq := by
  unfold abandonClear; dsimp only; split <;> rfl
@[simp] theorem abandonClear_mode (s : State) (b : BankNo) : (s.abandonClear b).mode = s.mode := by
  unfold abandonClear; dsimp only; split <;> rfl
@[simp] theorem abandonClear_regs (s : State) (b : BankNo) : (s.abandonClear b).regs = s.regs := by
  unfold abandonClear; dsimp only; split <;> rfl
@[simp] theorem abandonClear_clock (s : State) (b : BankNo) : (s.abandonClear b).clock = s.clock := by
  unfold abandonClear; dsimp only; split <;> rfl
@[simp] theorem abandonClear_pins (s : State) (b : BankNo) : (s.abandonClear b).pins = s.pins := by
  unfold abandonClear; dsimp only; split <;> rfl
@[simp] theorem abandonClear_mgmt (s : State) (b : BankNo) : (s.abandonClear b).mgmt = s.mgmt := by
  unfold abandonClear; dsimp only; split <;> rfl
@[simp] theorem abandonClear_out (s : State) (b : BankNo) : (s.abandonClear b).out = s.out := by
  unfold abandonClear; dsimp only; split <;> rfl
@[simp] theorem abandonClear_pending (s : State) (b : BankNo) : (s.abandonClear b).pending = s.pending := by
  unfold abandonClear; dsimp only; split <;> rfl
@[simp] theorem abandonClear_awaitRise (s : State) (b : BankNo) : (s.abandonClear b).awaitRise = s.awaitRise := by
  unfold abandonClear; dsimp only; split <;> rfl

@[simp] theorem makeStuck_store (s : State) (b : BankNo) : (s.makeStuck b).store = s.store := by
  unfold makeStuck; split <;> simp
@[simp] theorem makeStuck_regions (s : State) (b : BankNo) : (s.makeStuck b).regions = s.regions := by
  unfold makeStuck; split <;> simp
@[simp] theorem makeStuck_port (s : State) (b : BankNo) : (s.makeStuck b).port = s.port := by
  unfold makeStuck; split <;> simp
@[simp] theorem makeStuck_faults (s : State) (b : BankNo) : (s.makeStuck b).faults = s.faults := by
  unfold makeStuck; split <;> simp
@[simp] theorem makeStuck_irq (s : State) (b : BankNo) : (s.makeStuck b).irq = s.irq := by
  unfold makeStuck; split <;> simp
@[simp] theorem makeStuck_mode (s : State) (b : BankNo) : (s.makeStuck b).mode = s.mode := by
  unfold makeStuck; split <;> simp
@[simp] theorem makeStuck_regs (s : State) (b : BankNo) : (s.makeStuck b).regs = s.regs := by
  unfold makeStuck; split <;> simp
@[simp] theorem makeStuck_clock (s : State) (b : BankNo) : (s.makeStuck b).clock = s.clock := by
  unfold makeStuck; split <;> simp
@[simp] theorem makeStuck_pins (s : State) (b : BankNo) : (s.makeStuck b).pins = s.pins := by
  unfold makeStuck; split <;> simp
@[simp] theorem makeStuck_mgmt (s : State) (b : BankNo) : (s.makeStuck b).mgmt = s.mgmt := by
  unfold makeStuck; split <;> simp
@[simp] theorem makeStuck_out (s : State) (b : BankNo) : (s.makeStuck b).out = s.out := by
  unfold makeStuck; split <;> simp
@[simp] theorem makeStuck_pending (s : State) (b : BankNo) : (s.makeStuck b).pending = s.pending := by
  unfold makeStuck; split <;> simp
@[simp] theorem makeStuck_awaitRise (s : State) (b : BankNo) : (s.makeStuck b).awaitRise = s.awaitRise := by
  unfold makeStuck; split <;> simp

@[simp] theorem failBank_store (s : State) (b : BankNo) (k : FaultKind) : (s.failBank b k).store = s.store := by
  unfold failBank; simp
@[simp] theorem failBank_regions (s : State) (b : BankNo) (k : FaultKind) : (s.failBank b k).regions = s.regions := by
  unfold failBank; simp
@[simp] theorem failBank_port (s : State) (b : BankNo) (k : FaultKind) : (s.failBank b k).port = s.port := by
  unfold failBank; simp
@[simp] theorem failBank_irq (s : State) (b : BankNo) (k : FaultKind) : (s.failBank b k).irq = s.irq := by
  unfold failBank; simp
@[simp] theorem failBank_mode (s : State) (b : BankNo) (k : FaultKind) : (s.failBank b k).mode = s.mode := by
  unfold failBank; simp
@[simp] theorem failBank_regs (s : State) (b : BankNo) (k : FaultKind) : (s.failBank b k).regs = s.regs := by
  unfold failBank; simp
@[simp] theorem failBank_clock (s : State) (b : BankNo) (k : FaultKind) : (s.failBank b k).clock = s.clock := by
  unfold failBank; simp
@[simp] theorem failBank_pins (s : State) (b : BankNo) (k : FaultKind) : (s.failBank b k).pins = s.pins := by
  unfold failBank; simp
@[simp] theorem failBank_mgmt (s : State) (b : BankNo) (k : FaultKind) : (s.failBank b k).mgmt = s.mgmt := by
  unfold failBank; simp
@[simp] theorem failBank_out (s : State) (b : BankNo) (k : FaultKind) : (s.failBank b k).out = s.out := by
  unfold failBank; simp
@[simp] theorem failBank_pending (s : State) (b : BankNo) (k : FaultKind) : (s.failBank b k).pending = s.pending := by
  unfold failBank; simp
@[simp] theorem failBank_awaitRise (s : State) (b : BankNo) (k : FaultKind) : (s.failBank b k).awaitRise = s.awaitRise := by
  unfold failBank; simp

@[simp] theorem sampleAtRest_store (s : State) (b : BankNo) : (s.sampleAtRest b).store = s.store := by
  unfold sampleAtRest; dsimp only; split <;> simp
@[simp] theorem sampleAtRest_regions (s : State) (b : BankNo) : (s.sampleAtRest b).regions = s.regions := by
  unfold sampleAtRest; dsimp only; split <;> simp
@[simp] theorem sampleAtRest_port (s : State) (b : BankNo) : (s.sampleAtRest b).port = s.port := by
  unfold sampleAtRest; dsimp only; split <;> simp
@[simp] theorem sampleAtRest_irq (s : State) (b : BankNo) : (s.sampleAtRest b).irq = s.irq := by
  unfold sampleAtRest; dsimp only; split <;> simp
@[simp] theorem sampleAtRest_mode (s : State) (b : BankNo) : (s.sampleAtRest b).mode = s.mode := by
  unfold sampleAtRest; dsimp only; split <;> simp
@[simp] theorem sampleAtRest_regs (s : State) (b : BankNo) : (s.sampleAtRest b).regs = s.regs := by
  unfold sampleAtRest; dsimp only; split <;> simp
@[simp] theorem sampleAtRest_clock (s : State) (b : BankNo) : (s.sampleAtRest b).clock = s.clock := by
  unfold sampleAtRest; dsimp only; split <;> simp
@[simp] theorem sampleAtRest_pins (s : State) (b : BankNo) : (s.sampleAtRest b).pins = s.pins := by
  unfold sampleAtRest; dsimp only; split <;> simp
@[simp] theorem sampleAtRest_mgmt (s : State) (b : BankNo) : (s.sampleAtRest b).mgmt = s.mgmt := by
  unfold sampleAtRest; dsimp only; split <;> simp
@[simp] theorem sampleAtRest_out (s : State) (b : BankNo) : (s.sampleAtRest b).out = s.out := by
  unfold sampleAtRest; dsimp only; split <;> simp
@[simp] theorem sampleAtRest_pending (s : State) (b : BankNo) : (s.sampleAtRest b).pending = s.pending := by
  unfold sampleAtRest; dsimp only; split <;> simp
@[simp] theorem sampleAtRest_awaitRise (s : State) (b : BankNo) : (s.sampleAtRest b).awaitRise = s.awaitRise := by
  unfold sampleAtRest; dsimp only; split <;> simp

/-! ## The Fault Log (R156, R157, R158) -/

theorem handFault_added (s : State) (rep : FaultReport) (h : s.faults.records.length < Config.logCapacity) :
    (s.handFault rep).faults =
      { s.faults with
        records := s.faults.records ++ [⟨s.faults.nextSeq, s.clock.msTime, rep⟩], nextSeq := s.faults.nextSeq + 1,
        hold := updAt s.faults.hold rep.bank fun _ => true } := by
  simp [handFault, h]

theorem handFault_dropped (s : State) (rep : FaultReport) (h : ¬ s.faults.records.length < Config.logCapacity) :
    (s.handFault rep).faults =
      { s.faults with
        overflow := satInc s.faults.overflow, unlogged := updAt s.faults.unlogged rep.bank fun _ => true,
        hold := updAt s.faults.hold rep.bank fun _ => true } := by
  simp [handFault, h]

theorem handFault_hold (s : State) (rep : FaultReport) :
    (s.handFault rep).faults.hold = updAt s.faults.hold rep.bank fun _ => true := by
  by_cases h : s.faults.records.length < Config.logCapacity
  · simp [handFault_added s rep h]
  · simp [handFault_dropped s rep h]

theorem judgeHold_kept (s : State) (b : BankNo) (h : (s.recordNames b || s.faults.unlogged[b]) = true) :
    s.judgeHold b = s := by
  simp only [judgeHold, h, if_true]

theorem judgeHold_cleared (s : State) (b : BankNo) (h : (s.recordNames b || s.faults.unlogged[b]) = false) :
    (s.judgeHold b).faults = { s.faults with hold := updAt s.faults.hold b fun _ => false } := by
  simp only [judgeHold, h]
  rfl

/-! ## Bank records -/

theorem setBank_other (s : State) {b c : BankNo} (f : BankRecord → BankRecord) (h : b ≠ c) :
    (s.setBank b f).banks[c] = s.banks[c] := updAt_ne _ _ h

theorem setBank_same (s : State) (b : BankNo) (f : BankRecord → BankRecord) :
    (s.setBank b f).banks[b] = f s.banks[b] := updAt_self _ _ _

theorem enterClearing_banks (s : State) (b : BankNo) (o : Rest) :
    (s.enterClearing b o).banks =
      updAt s.banks b fun k => { k with state := .clearing o, settleTimer := .stopped, idleTimer := .stopped } := rfl

/-- A settle from WAKING touches its own bank only. -/
theorem settleWaking_other (s : State) {b c : BankNo} (o : Rest) (h : b ≠ c) : (s.settleWaking b o).banks[c] = s.banks[c] := by
  unfold settleWaking
  split
  · split
    · exact updAt_ne _ _ h
    · exact updAt_ne _ _ h
  · dsimp only
    split
    · exact (updAt_ne _ _ h).trans (updAt_ne _ _ h)
    · exact (updAt_ne _ _ h).trans (updAt_ne _ _ h)

theorem wake_other (s : State) {b c : BankNo} (o : Rest) (h : b ≠ c) : (s.wake b o).banks[c] = s.banks[c] := by
  unfold wake
  dsimp only
  split
  · exact (settleWaking_other _ o h).trans ((updAt_ne _ _ h).trans (updAt_ne _ _ h))
  · exact (updAt_ne _ _ h).trans (updAt_ne _ _ h)

theorem settleDescending_other (s : State) {b c : BankNo} (t : Rest) (h : b ≠ c) :
    (s.settleDescending b t).banks[c] = s.banks[c] := by
  unfold settleDescending
  dsimp only
  split
  · exact (wake_other _ t h).trans (updAt_ne _ _ h)
  · exact updAt_ne _ _ h

theorem descend_other (s : State) {b c : BankNo} (t : Rest) (h : b ≠ c) : (s.descend b t).banks[c] = s.banks[c] := by
  unfold descend
  dsimp only
  split
  · exact (settleDescending_other _ t h).trans (updAt_ne _ _ h)
  · exact updAt_ne _ _ h

theorem demand_other (s : State) {b c : BankNo} (h : b ≠ c) : (s.demand b).banks[c] = s.banks[c] := by
  unfold demand
  split
  · split <;> first | exact wake_other _ _ h | exact updAt_ne _ _ h | rfl
  · rfl

theorem makeStuck_other (s : State) {b c : BankNo} (h : b ≠ c) : (s.makeStuck b).banks[c] = s.banks[c] := by
  unfold makeStuck
  split
  · simp only [markFailed_banks, setCauses_banks, abandonClear_banks]
    exact updAt_ne _ _ h
  · rfl

/-- A fitted bank that is not STUCK becomes so, keeping its request level (R86). -/
theorem makeStuck_bank (s : State) (b : BankNo) (hf : s.fitted b = true) (hs : (s.bankState b).isStuck = false) :
    (s.makeStuck b).banks[b] =
      { s.banks[b] with state := .stuck (s.bankState b).stuckOrigin, settleTimer := .stopped, idleTimer := .stopped,
                        offTimer := .stopped, pendingWake := false } := by
  simp only [makeStuck, hf, hs, Bool.not_false, Bool.and_self, if_true, markFailed_banks, setCauses_banks,
    abandonClear_banks]
  exact updAt_self _ _ _

theorem makeStuck_already (s : State) (b : BankNo) (h : s.fitted b = false ∨ (s.bankState b).isStuck = true) :
    s.makeStuck b = s := by
  unfold makeStuck
  rcases h with h | h <;> simp [h]

/-- A wake leaves its bank WAKING toward ACTIVE, unless the status lines already report it (R78, R74). -/
theorem wake_bank (s : State) (b : BankNo) (o : Rest) (h : (s.banks[b].settled && s.banks[b].reported == .active) = false) :
    (s.wake b o).banks[b] =
      { s.banks[b] with state := .waking o, request := .active, settleTimer := .start s.regs.settleLimit.toNat,
                        idleTimer := .stopped, offTimer := .stopped, pendingWake := false,
                        wakeCount := satInc s.banks[b].wakeCount } := by
  have h' : ((s.requestLevel b .active (.waking o)).setBank b fun k => { k with wakeCount := satInc k.wakeCount }).banks[b].atRequest
      = false := by
    simpa [BankRecord.atRequest, Level.status, setBank, requestLevel] using h
  unfold wake
  dsimp only
  rw [if_neg (by rw [h']; decide)]
  simp [setBank, requestLevel]

/-- A descent leaves its bank DESCENDING, unless the status lines already report its target (R83, R84, R74). -/
theorem descend_bank (s : State) (b : BankNo) (t : Rest)
    (h : (s.banks[b].settled && s.banks[b].reported == t.level.status) = false) :
    (s.descend b t).banks[b] =
      { s.banks[b] with state := .descending t, request := t.level, settleTimer := .start s.regs.settleLimit.toNat,
                        idleTimer := .stopped, offTimer := .stopped, pendingWake := false } := by
  have h' : (s.requestLevel b t.level (.descending t)).banks[b].atRequest = false := by
    simpa [BankRecord.atRequest, setBank, requestLevel] using h
  unfold descend
  dsimp only
  rw [if_neg (by rw [h']; decide)]
  simp [setBank, requestLevel]

/-! ## Frames (R189) -/

/-- A reply is that of a frame in progress (R186). -/
@[simp] theorem frameBegun_reply (s : State) (n : Nat) (status : MgmtStatus) (results : List Byte) :
    (s.reply n status results).frameBegun = true := by simp [frameBegun, reply]
@[simp] theorem frameBegun_reset : State.reset.frameBegun = false := rfl

@[simp] theorem onFrame_waiting {s : State} (h : s.awaitRise = true) (e : Host.Outcome State Fault Refusal) :
    s.onFrame e = .next s := by simp [onFrame, h]
@[simp] theorem onFrame_taken {s : State} (h : s.awaitRise = false) (e : Host.Outcome State Fault Refusal) :
    s.onFrame e = e := by simp [onFrame, h]

/-- A management row that completes left the state as it was, while the port waits for MCS, or had its effect. -/
theorem onFrame_next {s t : State} {e : Host.Outcome State Fault Refusal} (h : s.onFrame e = .next t) :
    (s.awaitRise = true ∧ t = s) ∨ (s.awaitRise = false ∧ e = .next t) := by
  cases hw : s.awaitRise
  · exact .inr ⟨rfl, by rwa [onFrame_taken hw] at h⟩
  · rw [onFrame_waiting hw] at h
    injection h with h
    exact .inl ⟨rfl, h.symm⟩

/-! ## Ages (R6, R197) -/

@[simp] theorem agedLine_state (l : Line) : (LineStore.agedLine l).state = l.state := by
  unfold LineStore.agedLine; split <;> rfl
@[simp] theorem agedLine_addr (l : Line) : (LineStore.agedLine l).addr = l.addr := by
  unfold LineStore.agedLine; split <;> rfl
@[simp] theorem agedLine_bytes (l : Line) : (LineStore.agedLine l).bytes = l.bytes := by
  unfold LineStore.agedLine; split <;> rfl
@[simp] theorem agedLine_allocatedAt (l : Line) : (LineStore.agedLine l).allocatedAt = l.allocatedAt := by
  unfold LineStore.agedLine; split <;> rfl
@[simp] theorem agedLine_contributors (l : Line) : (LineStore.agedLine l).contributors = l.contributors := by
  unfold LineStore.agedLine; split <;> rfl
@[simp] theorem agedLine_drainContributors (l : Line) :
    (LineStore.agedLine l).drainContributors = l.drainContributors := by
  unfold LineStore.agedLine; split <;> rfl
@[simp] theorem agedLine_redirty (l : Line) : (LineStore.agedLine l).redirty = l.redirty := by
  unfold LineStore.agedLine; split <;> rfl
@[simp] theorem agedLine_ageRuns (l : Line) : (LineStore.agedLine l).ageRuns = true := by
  unfold LineStore.agedLine; split <;> simp_all

/-- The age after a step: one more once the count has begun, as it was at the step that begins it. -/
theorem agedLine_age (l : Line) : (LineStore.agedLine l).age = if l.ageRuns then satInc l.age else l.age := by
  unfold LineStore.agedLine; split <;> rfl

end Sys2Proof.Machine.State
end

