-- ==== Sys2Proof/Laws/EventEnd.lean ====
section
/-! SUPPORT. What the end of an event (`State.finish`) leaves alone and how it moves what it touches: every step of it, and
so the whole, keeps the relation `EventEnd`. -/

namespace Sys2Proof.Machine

open Relation

/-- A state that a bank does not leave at the end of an event: WAKING, ACTIVE, CLEARING or STUCK. -/
def BankState.stays (st : BankState) : Bool :=
  match st with
  | .waking _ => true
  | .active => true
  | .clearing _ => true
  | .stuck _ => true
  | .off => false
  | .retain => false
  | .descending _ => false

/-- A saturating count does not fall. -/
theorem le_satInc {w : Nat} (c : BitVec w) : c ≤ satInc c := by
  unfold satInc
  split
  · exact BitVec.le_refl c
  next h =>
    have hne : c.toNat ≠ 2 ^ w - 1 := fun x => h (BitVec.eq_of_toNat_eq (by simpa using x))
    have hlt := c.isLt
    rcases Nat.eq_zero_or_pos w with h0 | h0
    · subst h0; omega
    · have h1 : (1 : BitVec w).toNat = 1 := by
        simp only [BitVec.ofNat_eq_ofNat, BitVec.toNat_ofNat]
        exact Nat.mod_eq_of_lt (Nat.one_lt_two_pow (by omega))
      rw [BitVec.le_def, BitVec.toNat_add, h1, Nat.mod_eq_of_lt (by omega)]
      omega

/-- How the end of an event moves a bank record: a bank that is WAKING, ACTIVE, CLEARING or STUCK keeps all but its idle and
off timers, a DESCENDING bank may gain its pending wake, a bank at rest may rise. -/
structure BankRest (k k' : BankRecord) : Prop where
  reported : k'.reported = k.reported
  settled : k'.settled = k.settled
  lost : k.lost = true → k'.lost = true
  wakes : k.wakeCount ≤ k'.wakeCount
  stays : k.state.stays = true →
    k' = { k with idleTimer := k'.idleTimer, offTimer := k'.offTimer }
  descending : ∀ t, k.state = .descending t →
    k' = { k with idleTimer := k'.idleTimer, offTimer := k'.offTimer, pendingWake := k'.pendingWake } ∧
      (k.pendingWake = true → k'.pendingWake = true)
  rests : ∀ o : Rest, k.state = o.state →
    k' = { k with idleTimer := k'.idleTimer, offTimer := k'.offTimer } ∨
      (k'.request = .active ∧ k'.state.stays = true ∧ k'.state.isStuck = false)

/-- How the end of an event moves an occupied slot: its line stays, and bytes may join it. -/
structure LineKept (l l' : Line) : Prop where
  addr : l'.addr = l.addr
  allocatedAt : l'.allocatedAt = l.allocatedAt
  age : l'.age = l.age
  ageRuns : l'.ageRuns = l.ageRuns
  valid : ∀ n : Fin 32, (l.bytes[n]).isSome = true → (l'.bytes[n]).isSome = true
  draining : l.state = .draining → l'.state = .draining

/-- How the end of an event moves the state. -/
structure EventEnd (s t : State) : Prop where
  regions : t.regions = s.regions := by rfl
  faults : t.faults = s.faults := by rfl
  mode : t.mode = s.mode := by rfl
  regs : t.regs = s.regs := by rfl
  clock : t.clock = s.clock := by rfl
  pins : t.pins = s.pins := by rfl
  mgmt : t.mgmt = s.mgmt := by rfl
  awaitRise : t.awaitRise = s.awaitRise := by rfl
  pending : t.pending = s.pending := by rfl
  clearDone : t.irq.clearDone = s.irq.clearDone := by rfl
  enables : t.irq.enables = s.irq.enables := by rfl
  lostFlag : s.irq.lost = true → t.irq.lost = true := by exact id
  safeFlag : s.irq.safe = true → t.irq.safe = true := by exact id
  lateCount : t.port.lateCount = s.port.lateCount := by rfl
  drainedLines : t.store.drainedLines = s.store.drainedLines := by rfl
  requests : (t.queue.map Entry.request).Sublist (s.queue.map Entry.request) := by exact List.Sublist.refl _
  responses : s.out.responses <+: t.out.responses := by exact List.prefix_rfl
  issued : s.out.issued <+: t.out.issued := by exact List.prefix_rfl
  port : s.pins.resetn = true ∨ s.port.inFlight ≠ none → t.port = s.port := by exact fun _ => rfl
  bank : ∀ b : BankNo, BankRest s.banks[b] t.banks[b]
  causes : ∀ b : BankNo, (s.causes[b]).Sub t.causes[b] := by exact fun b => .refl _
  orders : ∀ b : BankNo, (t.causes[b]).flush = (s.causes[b]).flush ∧ (t.causes[b]).warn = (s.causes[b]).warn := by
    exact fun b => ⟨rfl, rfl⟩
  clearQueue : s.clear.queue <+: t.clear.queue := by exact List.prefix_rfl
  cursor : s.clear.queue ≠ [] → t.clear.cursor = s.clear.cursor ∧ t.clear.incomplete = s.clear.incomplete := by
    exact fun _ => ⟨rfl, rfl⟩
  slots : ∀ (i : SlotNo) (l : Line), s.store.slots[i] = some l → ∃ l', t.store.slots[i] = some l' ∧ LineKept l l'
  ages : s.store.ageList <+: t.store.ageList := by exact List.prefix_rfl

theorem DrainCauses.Sub.refl (c : DrainCauses) : c.Sub c := ⟨id, id, id, id⟩

theorem DrainCauses.Sub.trans {c d e : DrainCauses} (h : c.Sub d) (h' : d.Sub e) : c.Sub e :=
  ⟨fun x => h'.1 (h.1 x), fun x => h'.2.1 (h.2.1 x), fun x => h'.2.2.1 (h.2.2.1 x), fun x => h'.2.2.2 (h.2.2.2 x)⟩

theorem BankRest.refl (k : BankRecord) : BankRest k k :=
  ⟨rfl, rfl, id, BitVec.le_refl _, fun _ => rfl, fun _ _ => ⟨rfl, id⟩, fun _ _ => .inl rfl⟩

theorem BankRest.trans {k k' k'' : BankRecord} (h : BankRest k k') (h' : BankRest k' k'') : BankRest k k'' where
  reported := h'.reported.trans h.reported
  settled := h'.settled.trans h.settled
  lost := fun x => h'.lost (h.lost x)
  wakes := BitVec.le_trans h.wakes h'.wakes
  stays := fun x => by
    have e := h.stays x
    have e' := h'.stays (by rw [e]; exact x)
    rw [e] at e'
    exact e'.trans (by simp)
  descending := fun t x => by
    obtain ⟨e, p⟩ := h.descending t x
    obtain ⟨e', p'⟩ := h'.descending t (by rw [e]; exact x)
    refine ⟨?_, fun y => p' (p y)⟩
    rw [e] at e'
    exact e'.trans (by simp)
  rests := fun o x => by
    rcases h.rests o x with e | ⟨r, st, ns⟩
    · rcases h'.rests o (by rw [e]; exact x) with e' | y
      · rw [e] at e'
        exact .inl (e'.trans (by simp))
      · exact .inr y
    · have e' := h'.stays st
      exact .inr ⟨by rw [e']; exact r, by rw [e']; exact st, by rw [e']; exact ns⟩

theorem LineKept.refl (l : Line) : LineKept l l := ⟨rfl, rfl, rfl, rfl, fun _ h => h, id⟩

theorem LineKept.trans {l l' l'' : Line} (h : LineKept l l') (h' : LineKept l' l'') : LineKept l l'' :=
  ⟨h'.addr.trans h.addr, h'.allocatedAt.trans h.allocatedAt, h'.age.trans h.age, h'.ageRuns.trans h.ageRuns,
    fun n x => h'.valid n (h.valid n x), fun x => h'.draining (h.draining x)⟩

namespace EventEnd

theorem refl (s : State) : EventEnd s s where
  bank := fun _ => .refl _
  slots := fun _ l h => ⟨l, h, .refl l⟩

theorem trans {s t u : State} (h : EventEnd s t) (h' : EventEnd t u) : EventEnd s u where
  regions := h'.regions.trans h.regions
  faults := h'.faults.trans h.faults
  mode := h'.mode.trans h.mode
  regs := h'.regs.trans h.regs
  clock := h'.clock.trans h.clock
  pins := h'.pins.trans h.pins
  mgmt := h'.mgmt.trans h.mgmt
  awaitRise := h'.awaitRise.trans h.awaitRise
  pending := h'.pending.trans h.pending
  clearDone := h'.clearDone.trans h.clearDone
  enables := h'.enables.trans h.enables
  lostFlag := fun x => h'.lostFlag (h.lostFlag x)
  safeFlag := fun x => h'.safeFlag (h.safeFlag x)
  lateCount := h'.lateCount.trans h.lateCount
  drainedLines := h'.drainedLines.trans h.drainedLines
  requests := h'.requests.trans h.requests
  responses := h.responses.trans h'.responses
  issued := h.issued.trans h'.issued
  port := fun x => (h'.port (by rw [h.port x, h.pins]; exact x)).trans (h.port x)
  bank := fun b => (h.bank b).trans (h'.bank b)
  causes := fun b => (h.causes b).trans (h'.causes b)
  orders := fun b => ⟨(h'.orders b).1.trans (h.orders b).1, (h'.orders b).2.trans (h.orders b).2⟩
  clearQueue := h.clearQueue.trans h'.clearQueue
  cursor := fun x => by
    have y : t.clear.queue ≠ [] := fun e => x (List.prefix_nil.mp (e ▸ h.clearQueue))
    exact ⟨(h'.cursor y).1.trans (h.cursor x).1, (h'.cursor y).2.trans (h.cursor x).2⟩
  slots := fun i l x => by
    obtain ⟨l', hl, k⟩ := h.slots i l x
    obtain ⟨l'', hl', k'⟩ := h'.slots i l' hl
    exact ⟨l'', hl', k.trans k'⟩
  ages := h.ages.trans h'.ages

end EventEnd

theorem bankRest_setBank {s : State} {b : BankNo} {f : BankRecord → BankRecord} (h : BankRest s.banks[b] (f s.banks[b]))
    (c : BankNo) : BankRest s.banks[c] (s.setBank b f).banks[c] := by
  by_cases e : b = c
  · subst e
    rw [State.setBank_same]
    exact h
  · rw [State.setBank_other s f e]
    exact .refl _

/-- A merge keeps the line and its place. -/
theorem mergedLine_kept (r : Request) (l : Line) : LineKept l (LineStore.mergedLine r l) := by
  have hv : ∀ n : Fin 32, (l.bytes[n]).isSome = true → ((mergeBytes r l.bytes)[n]).isSome = true := by
    intro n h
    simp only [mergeBytes, Fin.getElem_fin, Vector.getElem_ofFn]
    cases hw : writtenByte r n with
    | some v => simp
    | none => simpa using h
  unfold LineStore.mergedLine
  dsimp only
  split
  · exact ⟨rfl, rfl, rfl, rfl, hv, id⟩
  · exact ⟨rfl, rfl, rfl, rfl, hv, id⟩

theorem onLine_slots {st : LineStore} {i : SlotNo} {f : Line → Line} (hf : ∀ l, LineKept l (f l)) (j : SlotNo) (l : Line)
    (h : st.slots[j] = some l) : ∃ l', (st.onLine i f).slots[j] = some l' ∧ LineKept l l' := by
  by_cases e : i = j
  · subst e
    refine ⟨f l, ?_, hf l⟩
    simp only [LineStore.onLine, updAt_self, h, Option.map_some]
  · refine ⟨l, ?_, .refl l⟩
    simpa only [LineStore.onLine, updAt_ne _ _ e] using h

/-- The settle event of a wake, whatever the bank was: the record afterwards. -/
theorem settleWaking_bank (s : State) (b : BankNo) (o : Rest) :
    let k := s.banks[b]
    let k' := (s.settleWaking b o).banks[b]
    k'.reported = k.reported ∧ k'.settled = k.settled ∧ (k.lost = true → k'.lost = true) ∧ k'.request = k.request ∧
      k'.settleTimer = .stopped ∧ k'.wakeCount = k.wakeCount ∧ k'.pendingWake = k.pendingWake ∧
      (k'.state = .active ∨ k'.state = .clearing o) := by
  cases o with
  | retain =>
    simp only [State.settleWaking]
    split <;> simp [State.enterClearing_banks, State.setBank]
  | off =>
    simp only [State.settleWaking]
    split <;> simp [State.enterClearing_banks, State.setBank]

/-- A wake, whatever the bank was: the record afterwards (R78, R80, R81). -/
theorem wake_record (s : State) (b : BankNo) (o : Rest) :
    let k := s.banks[b]
    let k' := (s.wake b o).banks[b]
    k'.reported = k.reported ∧ k'.settled = k.settled ∧ (k.lost = true → k'.lost = true) ∧ k'.request = .active ∧
      k'.wakeCount = satInc k.wakeCount ∧ k'.pendingWake = false ∧
      (k'.state = .waking o ∨ k'.state = .active ∨ k'.state = .clearing o) := by
  simp only [State.wake]
  split
  · have h := settleWaking_bank
      ((s.requestLevel b .active (.waking o)).setBank b fun k => { k with wakeCount := satInc k.wakeCount }) b o
    simp only [State.setBank_banks, State.requestLevel_banks, updAt_self] at h
    obtain ⟨h1, h2, h3, h4, -, h6, h7, h8⟩ := h
    exact ⟨h1, h2, h3, h4, h6, h7, .inr h8⟩
  · simp [State.setBank]

theorem wake_clear (s : State) (b : BankNo) (o : Rest) :
    s.clear.queue <+: (s.wake b o).clear.queue ∧
      (s.clear.queue ≠ [] → (s.wake b o).clear.cursor = s.clear.cursor ∧
        (s.wake b o).clear.incomplete = s.clear.incomplete) ∧
      (s.wake b o).irq.clearDone = s.irq.clearDone ∧ (s.wake b o).irq.enables = s.irq.enables ∧
      (s.irq.lost = true → (s.wake b o).irq.lost = true) ∧ (s.wake b o).irq.safe = s.irq.safe := by
  have key : ∀ u : State, u.clear.queue <+: (u.settleWaking b o).clear.queue ∧
      (u.clear.queue ≠ [] → (u.settleWaking b o).clear.cursor = u.clear.cursor ∧
        (u.settleWaking b o).clear.incomplete = u.clear.incomplete) ∧
      (u.settleWaking b o).irq.clearDone = u.irq.clearDone ∧ (u.settleWaking b o).irq.enables = u.irq.enables ∧
      (u.irq.lost = true → (u.settleWaking b o).irq.lost = true) ∧ (u.settleWaking b o).irq.safe = u.irq.safe := by
    intro u
    have enter : ∀ (v : State) (q : Rest), v.clear.queue <+: (v.enterClearing b q).clear.queue ∧
        (v.clear.queue ≠ [] → (v.enterClearing b q).clear.cursor = v.clear.cursor ∧
          (v.enterClearing b q).clear.incomplete = v.clear.incomplete) := by
      intro v q
      refine ⟨List.prefix_append _ _, fun hne => ?_⟩
      have : v.clear.queue.isEmpty = false := by simpa using hne
      simp [State.enterClearing, this]
    cases o with
    | retain =>
      unfold State.settleWaking
      dsimp only
      split
      · exact ⟨(enter u .retain).1, (enter u .retain).2, rfl, rfl, id, rfl⟩
      · exact ⟨List.prefix_rfl, fun _ => ⟨rfl, rfl⟩, rfl, rfl, id, rfl⟩
    | off =>
      unfold State.settleWaking
      dsimp only
      split
      · have := enter { u.setBank b (fun k => { k with lost := true }) with irq := { u.irq with lost := true } } .off
        exact ⟨this.1, this.2, rfl, rfl, fun _ => rfl, rfl⟩
      · exact ⟨List.prefix_rfl, fun _ => ⟨rfl, rfl⟩, rfl, rfl, fun _ => rfl, rfl⟩
  unfold State.wake
  dsimp only
  split
  · exact key ((s.requestLevel b .active (.waking o)).setBank b fun k => { k with wakeCount := satInc k.wakeCount })
  · exact ⟨List.prefix_rfl, fun _ => ⟨rfl, rfl⟩, rfl, rfl, id, rfl⟩

theorem eventEnd_wake (s : State) (b : BankNo) (o : Rest) (h : s.bankState b = o.state) : EventEnd s (s.wake b o) := by
  obtain ⟨hq, hc, hd, he, hl, hs⟩ := wake_clear s b o
  refine
    { regions := by simp, faults := by simp, mode := by simp, regs := by simp, clock := by simp, pins := by simp,
      mgmt := by simp, awaitRise := by simp, pending := by simp, clearDone := hd, enables := he, lostFlag := hl,
      safeFlag := fun x => hs ▸ x, lateCount := by simp, drainedLines := by simp, requests := by simp,
      responses := by simp, issued := by simp, port := by simp, bank := fun c => ?_,
      causes := fun c => by rw [State.wake_causes]; exact .refl _, orders := by simp, clearQueue := hq, cursor := hc,
      slots := fun i l x => ⟨l, by simpa using x, .refl l⟩, ages := by simp }
  by_cases e : b = c
  · subst e
    obtain ⟨h1, h2, h3, h4, h5, h6, h7⟩ := wake_record s b o
    have hst : s.banks[b].state = o.state := h
    refine ⟨h1, h2, h3, h5 ▸ le_satInc _, fun x => ?_, fun t x => ?_, fun _ _ => .inr ⟨h4, ?_, ?_⟩⟩
    · rw [hst] at x; cases o <;> cases x
    · rw [hst] at x; cases o <;> cases x
    · rcases h7 with h | h | h <;> rw [h] <;> rfl
    · rcases h7 with h | h | h <;> rw [h] <;> rfl
  · rw [State.wake_other s o e]
    exact .refl _

theorem setStatus_requests (s : State) (k : Nat) (st : EntryStatus) :
    (s.setStatus k st).queue.map Entry.request = s.queue.map Entry.request := by
  apply List.ext_getElem
  · simp
  · intro n h1 h2
    simp only [State.setStatus_queue, List.getElem_map, List.getElem_modify]
    split <;> rfl

theorem eventEnd_grantEntry (s : State) (k : Nat) (hr : s.pins.resetn = false) (hf : s.port.inFlight = none) : EventEnd s (s.grantEntry k) := by
  have hq : ((s.setStatus k .issued).queue.map Entry.request).Sublist (s.queue.map Entry.request) := by
    rw [setStatus_requests]
  unfold State.grantEntry
  split
  · exact .refl s
  · dsimp only
    split
    · exact { bank := fun _ => .refl _, slots := fun _ l hl => ⟨l, hl, .refl l⟩, issued := List.prefix_append _ _,
              port := fun x => absurd x (by simp [hf, hr]), requests := hq }
    · exact { bank := fun _ => .refl _, slots := fun _ l hl => ⟨l, hl, .refl l⟩, issued := List.prefix_append _ _,
              port := fun x => absurd x (by simp [hf, hr]), requests := hq }

theorem eventEnd_grantDrain (s : State) (i : SlotNo) (cls : DrainClass) (hr : s.pins.resetn = false)
    (hf : s.port.inFlight = none) :
    EventEnd s (s.grantDrain i cls) := by
  have hk : ∀ l : Line, LineKept l { l with state := .draining, drainContributors := 0, redirty := false } :=
    fun l => ⟨rfl, rfl, rfl, rfl, fun _ h => h, fun _ => rfl⟩
  unfold State.grantDrain
  split
  · exact .refl s
  · cases cls <;>
      exact { bank := fun _ => .refl _, slots := fun j l hl => onLine_slots hk j l hl, issued := List.prefix_append _ _,
              port := fun x => absurd x (by simp [hf, hr]) }

/-- Each small step of the end of an event moves the state as `EventEnd` says. -/
theorem eventEnd_step {s t : State} (h : EndStep s t) : EventEnd s t := by
  have same : ∀ (u : State) (i : SlotNo) (l : Line), u.store.slots[i] = some l → ∃ l', u.store.slots[i] = some l' ∧ LineKept l l' :=
    fun _ _ l hl => ⟨l, hl, .refl l⟩
  have rest : ∀ (u : State) (b : BankNo), BankRest u.banks[b] u.banks[b] := fun _ _ => .refl _
  cases h with
  | respond r code data => exact { bank := rest s, slots := same s, responses := List.prefix_append _ _ }
  | serve => exact { bank := rest s, slots := same s }
  | merge i r hj =>
    exact { bank := rest s, slots := fun j l x => onLine_slots (mergedLine_kept r) j l x }
  | allocate i r hj =>
    refine { bank := rest s, slots := fun j l x => ⟨l, ?_, .refl l⟩, ages := List.prefix_append _ _ }
    have e : i ≠ j := by
      rintro rfl
      rw [hj.2.1] at x
      cases x
    simpa only [LineStore.allocate, updAt_ne _ _ e] using x
  | withdraw b => exact { bank := rest s, slots := same s }
  | setStatus k st =>
    refine { bank := rest s, slots := same s, requests := ?_ }
    rw [setStatus_requests]
  | removeEntry k =>
    exact { bank := rest s, slots := same s, requests := (List.eraseIdx_sublist s.queue k).map _ }
  | wake b o hf h => exact eventEnd_wake s b o h
  | pendWake b t h =>
    refine { bank := bankRest_setBank ?_, slots := same s }
    have hst : s.banks[b].state = .descending t := h
    refine ⟨rfl, rfl, id, BitVec.le_refl _, fun x => ?_, fun _ _ => ⟨rfl, fun _ => rfl⟩, fun o x => ?_⟩
    · rw [hst] at x; cases x
    · rw [hst] at x; cases o <;> cases x
  | cause b f hm hk hl hp =>
    refine { bank := rest s, slots := same s, causes := fun c => ?_, orders := fun c => ?_ }
    · by_cases e : b = c
      · subst e
        simpa only [State.setCauses, updAt_self] using hm _
      · simpa only [State.setCauses, updAt_ne _ _ e] using .refl _
    · by_cases e : b = c
      · subst e
        simpa only [State.setCauses, updAt_self] using hk _
      · simp only [State.setCauses, updAt_ne _ _ e, and_self]
  | grantEntry k hr hf h => exact eventEnd_grantEntry s k hr hf
  | grantDrain i cls hr hf h => exact eventEnd_grantDrain s i cls hr hf
  | grantZeroLine b hr hf h =>
    exact { bank := rest s, slots := same s, issued := List.prefix_append _ _, port := fun x => absurd x (by simp [hf, hr]) }
  | timers b =>
    refine { bank := bankRest_setBank ?_, slots := same s }
    exact ⟨rfl, rfl, id, BitVec.le_refl _, fun _ => rfl, fun _ _ => ⟨rfl, id⟩, fun _ _ => .inl rfl⟩
  | latch => exact { bank := rest s, slots := same s, safeFlag := fun _ => rfl }

/-- So does a chain of them. -/
theorem eventEnd_steps {s t : State} (h : EndSteps s t) : EventEnd s t := by
  induction h with
  | refl => exact .refl s
  | tail _ hs ih => exact ih.trans (eventEnd_step hs)

/-- What follows the effect of an event moves the state as `EventEnd` says. -/
theorem finish_eventEnd (s pre : State) (released : Bool) : EventEnd s (s.finish pre released) :=
  eventEnd_steps (State.finish_steps s pre released)

/-- So does what follows a completion. -/
theorem finishCompletion_eventEnd (s pre : State) (released : Bool) : EventEnd s (s.finishCompletion pre released) :=
  eventEnd_steps (State.finishCompletion_steps s pre released)

/-! ## The idle and off timers at the end of an event (R82, R84) -/

/-- A change of the timers alone leaves the conditions of every bank's timers. -/
theorem refreshTimersOf_conditions (s : State) (a b : BankNo) :
    (s.refreshTimersOf a).idleConditions b = s.idleConditions b ∧
      (s.refreshTimersOf a).offConditions b = s.offConditions b := by
  have h : (s.refreshTimersOf a).bankState b = s.bankState b := by
    by_cases e : a = b
    · subst e
      simp only [State.bankState, State.refreshTimersOf, State.setBank, updAt_self]
    · simp only [State.bankState, State.refreshTimersOf, State.setBank, updAt_ne _ _ e]
  unfold State.idleConditions State.offConditions
  rw [h]
  exact ⟨rfl, rfl⟩

/-- What a bank's record is after its timers have followed their conditions. -/
def refreshedRecord (s : State) (b : BankNo) : BankRecord :=
  { s.banks[b] with
    idleTimer := State.followTimer (s.idleConditions b) s.regs.policy[b].retainDelay.toNat s.banks[b].idleTimer
    offTimer := State.followTimer (s.offConditions b) s.regs.policy[b].offDelay.toNat s.banks[b].offTimer }

/-- The timers of the listed banks follow their conditions, and no other record changes. -/
theorem refresh_listed (banks : List BankNo) (hn : banks.Nodup) (s : State) (b : BankNo) :
    (banks.foldl State.refreshTimersOf s).banks[b] = if b ∈ banks then refreshedRecord s b else s.banks[b] := by
  induction banks generalizing s with
  | nil => simp
  | cons a rest ih =>
    rw [List.foldl_cons, ih (List.nodup_cons.1 hn).2]
    by_cases e : a = b
    · subst e
      rw [if_neg (List.nodup_cons.1 hn).1, if_pos List.mem_cons_self]
      simp only [State.refreshTimersOf, State.setBank, updAt_self]
      rfl
    · have hb : (s.refreshTimersOf a).banks[b] = s.banks[b] := by
        simp only [State.refreshTimersOf, State.setBank, updAt_ne _ _ e]
      have hr : refreshedRecord (s.refreshTimersOf a) b = refreshedRecord s b := by
        unfold refreshedRecord
        rw [hb, (refreshTimersOf_conditions s a b).1, (refreshTimersOf_conditions s a b).2]
        rfl
      have hm : b ∈ a :: rest ↔ b ∈ rest := by simp [Ne.symm e]
      rw [hr, hb]
      simp only [hm]

/-- After the end of an event every bank's timers follow their conditions. -/
theorem refreshTimers_bank (s : State) (b : BankNo) : s.refreshTimers.banks[b] = refreshedRecord s b := by
  rw [State.refreshTimers, refresh_listed _ (List.nodup_finRange 8), if_pos (List.mem_finRange b)]

end Sys2Proof.Machine
end

