-- ==== Sys2Proof/Laws/Counts.lean ====
section
/-! SUPPORT. Counting: how the line counts and the fill level move when one slot changes, and what they say
when they are zero. -/

namespace Sys2Proof.Machine

/-- The count over a vector with one changed place, against the count before. -/
theorem countP_updAt {α : Type} {n : Nat} (v : Vector α n) (i : Fin n) (f : α → α) (p : α → Bool) :
    (updAt v i f).toList.countP p + (p v[i]).toNat = v.toList.countP p + (p (f v[i])).toNat := by
  have hi : i.val < v.toList.length := by simp
  have hm : (updAt v i f).toList = v.toList.set i.val (f v[i]) := by simp [updAt, Vector.toList_set]
  rw [hm, List.countP_set hi]
  have hg : v.toList[i.val] = v[i] := by simp
  rw [hg]
  by_cases h1 : p v[i] = true
  · have : 0 < v.toList.countP p := List.countP_pos_iff.2 ⟨v[i], by simp, h1⟩
    cases h2 : p (f v[i]) <;> simp only [h1, ↓reduceIte, Bool.toNat_true, Bool.toNat_false, Bool.false_eq_true] <;> omega
  · rw [Bool.not_eq_true] at h1
    cases h2 : p (f v[i]) <;> simp only [h1, ↓reduceIte, Bool.toNat_true, Bool.toNat_false, Bool.false_eq_true] <;> omega

/-- A count over a vector is zero exactly when no place counts. -/
theorem countP_eq_zero_iff {α : Type} {n : Nat} (v : Vector α n) (p : α → Bool) :
    v.toList.countP p = 0 ↔ ∀ i : Fin n, p v[i] = false := by
  rw [List.countP_eq_zero]
  constructor
  · intro h i
    exact Bool.eq_false_iff.2 (h _ (by simp))
  · intro h a ha
    obtain ⟨k, hk, rfl⟩ := List.getElem_of_mem ha
    have := h ⟨k, by simpa using hk⟩
    simpa using this

/-- The line of a request lies in the request's bank (R1, R28). -/
theorem bank_of_requestLine {r : Request} {l : Line} (h : l.addr = r.line) : l.bank = r.bank := by
  have hl : l.addr.toNat = r.address.toNat / 32 := by
    rw [h]
    have := r.address.isLt
    simp only [Request.line, BitVec.toNat_ofNat]
    omega
  apply Fin.ext
  simp only [Line.bank, Request.bank, hl, Config.bankLines, Config.bankBytes]
  omega

namespace LineStore

/-- A bank's line count is zero exactly when no slot holds a line of it (R20). -/
theorem lineCount_eq_zero_iff (st : LineStore) (b : BankNo) :
    st.lineCount b = 0 ↔ ∀ i : SlotNo, slotOfBank b st.slots[i] = false := countP_eq_zero_iff _ _

/-- A bank with a line in some slot has a line count above zero (R20). -/
theorem lineCount_ne_zero {st : LineStore} {i : SlotNo} {l : Line} (h : st.slots[i] = some l) : st.lineCount l.bank ≠ 0 := by
  intro h0
  have := (st.lineCount_eq_zero_iff l.bank).1 h0 i
  rw [h] at this
  simp [slotOfBank] at this

/-- The fill level is zero exactly when every slot is FREE (R21). -/
theorem fill_eq_zero_iff (st : LineStore) : st.fill = 0 ↔ ∀ i : SlotNo, st.slots[i] = none := by
  unfold fill
  rw [countP_eq_zero_iff]
  exact forall_congr' fun i => by cases st.slots[i] <;> simp

/-- A change that keeps a slot's address keeps every line count. -/
theorem onLine_lineCount (st : LineStore) (i : SlotNo) (f : Line → Line) (h : ∀ l, (f l).addr = l.addr) (b : BankNo) :
    (st.onLine i f).lineCount b = st.lineCount b := by
  have hc := countP_updAt st.slots i (Option.map f) (slotOfBank b)
  have hp : slotOfBank b (Option.map f st.slots[i]) = slotOfBank b st.slots[i] := by
    cases st.slots[i] with
    | none => rfl
    | some l => simp [slotOfBank, Line.bank, h]
  rw [hp] at hc
  exact Nat.add_right_cancel hc

/-- A change of one line keeps the fill level. -/
theorem onLine_fill (st : LineStore) (i : SlotNo) (f : Line → Line) : (st.onLine i f).fill = st.fill := by
  have hc := countP_updAt st.slots i (Option.map f) Option.isSome
  have hp : (Option.map f st.slots[i]).isSome = st.slots[i].isSome := by cases st.slots[i] <;> rfl
  rw [hp] at hc
  exact Nat.add_right_cancel hc

/-- A freeing of a slot lowers its bank's line count by one, and no other (R20). -/
theorem free_lineCount {st : LineStore} {i : SlotNo} {l : Line} (h : st.slots[i] = some l) (b : BankNo) :
    (st.free i).lineCount b + (l.bank == b).toNat = st.lineCount b := by
  have hc := countP_updAt st.slots i (fun _ => none) (slotOfBank b)
  rw [h] at hc
  exact hc

/-- A freeing of an occupied slot lowers the fill level by one (R21). -/
theorem free_fill {st : LineStore} {i : SlotNo} {l : Line} (h : st.slots[i] = some l) : (st.free i).fill + 1 = st.fill := by
  have hc := countP_updAt st.slots i (fun _ => none) Option.isSome
  rw [h] at hc
  exact hc

/-- An allocation raises the line count of the request's bank by one, and no other (R7, R20). -/
theorem allocate_lineCount {st : LineStore} {i : SlotNo} (h : st.slots[i] = none) (r : Request) (now : BitVec 16) (b : BankNo) :
    (st.allocate i r now).lineCount b = st.lineCount b + (r.bank == b).toNat := by
  have hc := countP_updAt st.slots i (fun _ => some
    { state := .held, addr := r.line, bytes := mergeBytes r noBytes, allocatedAt := now, age := 0, ageRuns := false,
      contributors := addInitiator 0 r.initiator, drainContributors := 0, redirty := false }) (slotOfBank b)
  rw [h] at hc
  have hb : ∀ l : Line, l.addr = r.line → slotOfBank b (some l) = (r.bank == b) := fun l hl => by
    simp only [slotOfBank, bank_of_requestLine hl]
  rw [hb _ rfl] at hc
  exact hc

/-- An allocation into a FREE slot raises the fill level by one (R7, R21). -/
theorem allocate_fill {st : LineStore} {i : SlotNo} (h : st.slots[i] = none) (r : Request) (now : BitVec 16) :
    (st.allocate i r now).fill = st.fill + 1 := by
  have hc := countP_updAt st.slots i (fun _ => some
    { state := .held, addr := r.line, bytes := mergeBytes r noBytes, allocatedAt := now, age := 0, ageRuns := false,
      contributors := addInitiator 0 r.initiator, drainContributors := 0, redirty := false }) Option.isSome
  rw [h] at hc
  exact hc

end LineStore

end Sys2Proof.Machine
end

