-- ==== Sys2Proof/Laws/PerInstr.lean ====
section
/-! SUPPORT. For every command: the frame that carries it, if it is a management command, has a code and exactly the argument
bytes that Table 10-2 gives for the code, none for a code outside the table (R186). -/

namespace Sys2Proof.Laws.FrameShape

/-- A frame is a code with the code's argument bytes. -/
def Shaped (frame : List Byte) : Prop :=
  match frame with
  | [] => False
  | code :: args =>
    match argumentBytes code with
    | some n => args.length = n
    | none => args = []

/-- The frame of a well-formed command is shaped. -/
def Statement (i : Instr) : Prop := i.wellFormed = true → ∀ frame, encodeFrame i = some frame → Shaped frame

/-- A command without a frame. -/
theorem of_none {i : Instr} (h : encodeFrame i = none) : Statement i := fun _ _ he => by rw [h] at he; cases he

/-- A command with a frame of the right shape. -/
theorem of_some {i : Instr} {frame : List Byte} (h : encodeFrame i = some frame) (hs : Shaped frame) : Statement i :=
  fun _ _ he => by rw [h] at he; cases he; exact hs

theorem requestTaken (r : Request) : Statement (.requestTaken r) := of_none rfl

theorem completion (number : BitVec 8) (report : Report) (data : Vector Word 8) : Statement (.completion number report data) := of_none rfl

theorem accessTimeout : Statement .accessTimeout := of_none rfl

theorem settleTimeout (bank : BankNo) : Statement (.settleTimeout bank) := of_none rfl

theorem statusLineChange (bank : BankNo) (level : StatusLevel) (settled : Bool) : Statement (.statusLineChange bank level settled) := of_none rfl

theorem idleTimerExpiry (bank : BankNo) : Statement (.idleTimerExpiry bank) := of_none rfl

theorem offTimerExpiry (bank : BankNo) : Statement (.offTimerExpiry bank) := of_none rfl

theorem ageExpiry (bank : BankNo) : Statement (.ageExpiry bank) := of_none rfl

theorem supwarnAssertion : Statement .supwarnAssertion := of_none rfl

theorem supwarnNegation : Statement .supwarnNegation := of_none rfl

theorem fltpassAssertion : Statement .fltpassAssertion := of_none rfl

theorem fltpassNegation : Statement .fltpassNegation := of_none rfl

theorem resetnAssertion : Statement .resetnAssertion := of_none rfl

theorem resetnNegation : Statement .resetnNegation := of_none rfl

theorem powerOnReset : Statement .powerOnReset := of_none rfl

theorem invalidCommand (frame : List Byte) : Statement (.invalidCommand frame) := by
  intro hw frame' he
  cases he
  have hn : namesNoCommand frame = true := hw
  clear hw
  unfold namesNoCommand at hn
  split at hn
  · next code =>
    have hc : argumentBytes code = none := by simpa using hn
    simp [Shaped, hc]
  · next code b a =>
    have hc : code = 0x08 := by
      simp only [Bool.and_eq_true, beq_iff_eq] at hn
      exact hn.1
    subst hc
    rfl
  · cases hn

theorem status : Statement .status := of_some rfl rfl

theorem counterHighRead (register : Byte) : Statement (.counterHighRead register) := of_some rfl rfl

theorem regWrite (register : Byte) (value : BitVec 16) : Statement (.regWrite register value) := of_some rfl rfl

theorem configWrite (value : BitVec 16) : Statement (.configWrite value) := of_some rfl rfl

theorem hwmWrite (value : BitVec 16) : Statement (.hwmWrite value) := of_some rfl rfl

theorem ageLimitWrite (value : BitVec 16) : Statement (.ageLimitWrite value) := of_some rfl rfl

theorem irqStatusWrite (value : BitVec 16) : Statement (.irqStatusWrite value) := of_some rfl rfl

theorem irqEnableWrite (value : BitVec 16) : Statement (.irqEnableWrite value) := of_some rfl rfl

theorem resetRecordWrite (value : BitVec 16) : Statement (.resetRecordWrite value) := of_some rfl rfl

theorem bankPolicyAWrite (bank : BankNo) (value : BitVec 16) : Statement (.bankPolicyAWrite bank value) := of_some rfl rfl

theorem bankPolicyBWrite (bank : BankNo) (value : BitVec 16) : Statement (.bankPolicyBWrite bank value) := of_some rfl rfl

theorem regionRead (entry : Byte) : Statement (.regionRead entry) := of_some rfl rfl

theorem regionWrite (entry : Byte) (flags : Byte) (base : BitVec 24) (limit : BitVec 24) (initiators : Byte) : Statement (.regionWrite entry flags base limit initiators) := of_some rfl rfl

theorem slotRead (slot : Byte) : Statement (.slotRead slot) := of_some rfl rfl

theorem wakeOrder (bank : Byte) : Statement (.wakeOrder bank) := of_some rfl rfl

theorem retainOrder (bank : Byte) : Statement (.retainOrder bank) := of_some rfl rfl

theorem offOrder (bank : Byte) : Statement (.offOrder bank) := of_some rfl rfl

theorem retryOrder (bank : Byte) : Statement (.retryOrder bank) := of_some rfl rfl

theorem discardOrder (bank : Byte) : Statement (.discardOrder bank) := of_some rfl rfl

theorem clearOrder (bank : Byte) : Statement (.clearOrder bank) := of_some rfl rfl

theorem unlostOrder (bank : Byte) : Statement (.unlostOrder bank) := of_some rfl rfl

theorem flush (bank : Byte) : Statement (.flush bank) := of_some rfl rfl

theorem flushAll : Statement .flushAll := of_some rfl rfl

theorem faultPeek : Statement .faultPeek := of_some rfl rfl

theorem faultPop : Statement .faultPop := of_some rfl rfl

theorem faultPopRemoval (shifted : Nat) : Statement (.faultPopRemoval shifted) := of_none rfl

theorem clearUnlogged (bank : Byte) : Statement (.clearUnlogged bank) := of_some rfl rfl

theorem millisecondCounterStep : Statement .millisecondCounterStep := of_none rfl

end Sys2Proof.Laws.FrameShape
end

