-- ==== Sys2Proof/Laws/QuietEnd.lean ====
section
/-! SUPPORT. The end of an event that is no release event and freezes no bank: the Hold Queue is not walked, so nothing is
answered, absorbed or served after the event's own effect. -/

namespace Sys2Proof.Machine

/-- What only a walk of the Hold Queue changes. -/
structure QuietEnd (s t : State) : Prop where
  responses : t.out.responses = s.out.responses
  requests : t.queue.map Entry.request = s.queue.map Entry.request
  ageList : t.store.ageList = s.store.ageList
  absorbed : t.store.absorbedWrites = s.store.absorbedWrites
  served : t.store.servedReads = s.store.servedReads

namespace QuietEnd

theorem refl (s : State) : QuietEnd s s := ⟨rfl, rfl, rfl, rfl, rfl⟩

theorem trans {s t u : State} (h : QuietEnd s t) (h' : QuietEnd t u) : QuietEnd s u :=
  ⟨h'.responses.trans h.responses, h'.requests.trans h.requests, h'.ageList.trans h.ageList,
    h'.absorbed.trans h.absorbed, h'.served.trans h.served⟩

/-- An operation that leaves the outputs, the queue and the store alone. -/
theorem of_blocks {s t : State} (ho : t.out = s.out) (hq : t.queue = s.queue) (hs : t.store = s.store) : QuietEnd s t :=
  ⟨by rw [ho], by rw [hq], by rw [hs], by rw [hs], by rw [hs]⟩

theorem foldl {α : Type} {f : State → α → State} (hf : ∀ s a, QuietEnd s (f s a)) (l : List α) (s : State) :
    QuietEnd s (l.foldl f s) := by
  induction l generalizing s with
  | nil => exact .refl s
  | cons a l ih => exact (hf s a).trans (ih _)

theorem demand (s : State) (b : BankNo) : QuietEnd s (s.demand b) := .of_blocks (by simp) (by simp) (by simp)

theorem addCause (s : State) (b : BankNo) (f : DrainCauses → DrainCauses) : QuietEnd s (s.addCause b f) :=
  .of_blocks (by simp) (by simp) (by simp)

theorem takeAgeExpiries (pre s : State) : QuietEnd s (State.takeAgeExpiries pre s) := by
  refine foldl (fun t b => ?_) _ s
  split
  · exact addCause t b _
  · exact .refl t

theorem pressureChoice (s : State) : QuietEnd s s.pressureChoice := by
  unfold State.pressureChoice
  split
  · dsimp only
    split
    · exact addCause s _ _
    · exact .refl s
  · exact .refl s

theorem grantEntry (s : State) (k : Nat) : QuietEnd s (s.grantEntry k) := by
  have hq := setStatus_requests s k .issued
  unfold State.grantEntry
  split
  · exact .refl s
  · dsimp only
    split
    · exact ⟨rfl, hq, rfl, rfl, rfl⟩
    · exact ⟨rfl, hq, rfl, rfl, rfl⟩

theorem grantDrain (s : State) (i : SlotNo) (cls : DrainClass) : QuietEnd s (s.grantDrain i cls) := by
  unfold State.grantDrain
  split
  · exact .refl s
  · cases cls <;> exact ⟨rfl, rfl, rfl, rfl, rfl⟩

theorem grant (s : State) : QuietEnd s s.grant := by
  unfold State.grant
  split
  · exact .refl s
  · split
    · exact grantEntry s _
    · exact grantDrain s _ _
    · exact ⟨rfl, rfl, rfl, rfl, rfl⟩
    · exact .refl s

theorem refreshTimers (s : State) : QuietEnd s s.refreshTimers :=
  foldl (f := State.refreshTimersOf) (fun _ _ => ⟨rfl, rfl, rfl, rfl, rfl⟩) _ s

theorem latchSafe (pre s : State) : QuietEnd s (State.latchSafe pre s) := by
  unfold State.latchSafe
  split
  · exact ⟨rfl, rfl, rfl, rfl, rfl⟩
  · exact .refl s

end QuietEnd

/-- A sweep whose rule passes every entry over does nothing. -/
theorem sweep_pass {rule : State → Nat → Entry → Visit} (h : ∀ s k e, rule s k e = .pass) (fuel k : Nat) (s : State) :
    sweep rule fuel k s = s := by
  induction fuel generalizing k with
  | zero => rfl
  | succ n ih =>
    unfold sweep
    split
    · rfl
    · simp only [h, ih]

namespace State

/-- With the holds and FLTPASS as they were, no bank becomes frozen. -/
theorem becameFrozen_same {pre s : State} (hh : s.faults.hold = pre.faults.hold) (hp : s.pins.fltpass = pre.pins.fltpass)
    (b : BankNo) : becameFrozen pre s b = false := by
  unfold becameFrozen frozen
  rw [hh, hp, Bool.not_and_self]

/-- Where no bank became frozen, no READY entry is re-evaluated. -/
theorem freezeReevaluation_quiet {pre s : State} (h : ∀ b, becameFrozen pre s b = false) : freezeReevaluation pre s = s :=
  sweep_pass (fun t k e => by simp [freezeRule, h]) _ _ _

/-- Where the event is no release event and freezes no bank, the queue is left alone. -/
theorem runQueue_quiet {pre s : State} (hf : ∀ b, becameFrozen pre s b = false) (hr : isRelease pre s = false) :
    runQueue pre false s = s := by
  simp [runQueue, freezeReevaluation_quiet hf, hr]

/-- With no entries the queue is left alone, whatever the event. -/
theorem runQueue_empty {pre s : State} (released : Bool) (h : s.queue = []) : runQueue pre released s = s := by
  have hfz : freezeReevaluation pre s = s := by simp [freezeReevaluation, h, sweep]
  have hw : s.releaseWalk = s := by simp [releaseWalk, h, sweep]
  have he : enteredActive s s = false := by simp [enteredActive]
  simp [runQueue, hfz, releaseWalks, hw, he]

/-- What follows an event whose effect leaves the queue to rest answers, absorbs and serves nothing. -/
theorem finish_quiet {s pre : State} {released : Bool} (h : runQueue pre released s = s) :
    QuietEnd s (s.finish pre released) := by
  unfold finish untilGrant afterGrant
  rw [h]
  exact (QuietEnd.takeAgeExpiries pre s).trans <| (QuietEnd.pressureChoice _).trans <| (QuietEnd.grant _).trans <|
    (QuietEnd.refreshTimers _).trans (QuietEnd.latchSafe pre _)

end State
end Sys2Proof.Machine
end

