-- ==== Sys2Proof/Tests/Slice0.lean ====
section
/-! SUPPORT. Small tests on fixed values: the checks of well-formedness, the frames of the management port, what each command
does in one step on a small state, and, for every statement, states and operands that meet its hypotheses. -/

namespace Sys2Proof.Tests.Slice0

open Sys2Proof.Machine

/-! ## Small states -/

/-- Whether a command leaves a next state that passes a check. -/
def runs (c : Instr) (s : State) (check : State → Bool) : Bool :=
  match exec c s with
  | .next t => check t
  | .fault _ => false
  | .refused _ => false

/-- Whether a command changes nothing but the frame on the management port, with the given status. -/
def onlyReplies (c : Instr) (s : State) (status : MgmtStatus) : Bool :=
  runs c s fun t => (t.mgmt.map Frame.status) == some status && { t with mgmt := s.mgmt } == s

/-- A bank record settled at a level, in a state. -/
def settledAt (st : BankState) (level : Level) : BankRecord :=
  { BankRecord.reset with state := st, request := level, reported := level.status }

/-- A bank record in a transition from one level to another, its settle timer running. -/
def moving (st : BankState) (level : Level) (reported : StatusLevel) : BankRecord :=
  { BankRecord.reset with state := st, request := level, reported := reported, settled := false, settleTimer := .start 50 }

/-- A state with another record for a bank. -/
def withBank (s : State) (b : BankNo) (k : BankRecord) : State := s.setBank b fun _ => k

/-- Reset with bank 0 ACTIVE. -/
def awake : State := withBank State.reset 0 (settledAt .active .active)

/-- Reset with bank 0 RETAIN. -/
def asleep : State := withBank State.reset 0 (settledAt .retain .retain)

/-- Reset with bank 0 STUCK, stuck origin RETAIN. -/
def stuck : State := withBank State.reset 0 { settledAt (.stuck .retain) .active with settled := false }

/-- A line of bank 0: line 2, with its first word valid. -/
def line2 : Line where
  state := .held
  addr := 2
  bytes := Vector.ofFn fun n => if n.val < 4 then some (BitVec.ofNat 8 (n.val + 1)) else none
  allocatedAt := 0
  age := 0
  ageRuns := true
  contributors := 1
  drainContributors := 0
  redirty := false

/-- Line 2 without its second byte. -/
def partial2 : Line := { line2 with bytes := updAt line2.bytes 1 fun _ => none }

/-- A state with a line in slot 0. -/
def withLine (s : State) (l : Line) : State :=
  { s with store := { s.store with slots := updAt s.store.slots 0 fun _ => some l, ageList := [0] } }

/-- A state with an operation in flight. -/
def withOp (s : State) (kind : OpKind) (p : Presenter) : State :=
  { s with port := { s.port with inFlight := some ⟨kind, 1, 0, 64, 1, p, .start 64⟩, opNumber := 1 } }

/-- A state with a region for all lines and initiators, ABSORB and SERVE set. -/
def withRegion (s : State) : State :=
  { s with regions := updAt s.regions 0 fun _ => ⟨true, 0, 2097151, 255, true, true⟩ }

/-- A state with one record, of bank 0, in the Fault Log. -/
def withRecord (s : State) : State := s.handFault ⟨.settleTimeout, 0, none, none, none, some 0⟩

/-- A read of the first word of line 2 of bank 0. -/
def readLine2 : Request := ⟨1, 3, 64, .read 1⟩

/-- A write of the first word of line 2 of bank 0. -/
def writeLine2 : Request := ⟨1, 4, 64, .write [⟨0xDDCCBBAA, 0b0101⟩]⟩

/-- A Fault Log without records that counts three lost faults of bank 0. -/
def unloggedLog : FaultLog :=
  { FaultLog.reset with
    overflow := 3
    unlogged := updAt FaultLog.reset.unlogged 0 fun _ => true
    hold := updAt FaultLog.reset.hold 0 fun _ => true }

/-- Drained, cleared and word data of zeros. -/
def noData : Vector Word 8 := Vector.replicate 8 0

/-- A state whose queue holds an ISSUED entry for `readLine2`, in flight. -/
def reading : State := withOp { awake with queue := [⟨readLine2, .issued⟩] } .wordRead .entry

/-- A state whose slot 0 is DRAINING, in flight. -/
def draining : State := withOp (withLine awake { line2 with state := .draining }) .lineWrite (.slot 0)

/-- A state whose bank 0 is CLEARING with a zero-line write outstanding. -/
def clearing (cursor : BitVec 18) : State :=
  let s := withOp (withBank State.reset 0 (settledAt (.clearing .off) .active)) .zeroLine .clearEngine
  { s with clear := { s.clear with queue := [0], cursor := cursor, outstanding := true } }

/-- A state whose MCS was low at the end of power-on reset. -/
def waiting : State := { awake with awaitRise := true }

/-- What holds of each of the eight banks holds of every bank. -/
theorem allBanks {p : BankNo → Prop} (h0 : p 0) (h1 : p 1) (h2 : p 2) (h3 : p 3) (h4 : p 4) (h5 : p 5) (h6 : p 6)
    (h7 : p 7) : ∀ b, p b
  | 0 => h0
  | 1 => h1
  | 2 => h2
  | 3 => h3
  | 4 => h4
  | 5 => h5
  | 6 => h6
  | 7 => h7

/-! ## Well-formedness -/

theorem test_request_of_no_words : (Instr.requestTaken ⟨0, 0, 0, .read 0⟩).wellFormed = false := by decide

theorem test_request_of_nine_words : (Instr.requestTaken ⟨0, 0, 0, .read 9⟩).wellFormed = false := by decide

theorem test_invalid_command_that_names_one : (Instr.invalidCommand [0x01]).wellFormed = false := by decide

theorem test_register_with_its_own_row : (Instr.regWrite 0x01 5).wellFormed = false := by decide

theorem test_seventeen_result_bytes : (Instr.faultPopRemoval 17).wellFormed = false := by decide

/-! ## Frames -/

theorem test_frame_status : decodeFrame [0x01, 0xFF] = some .status := by decide

theorem test_frame_order : decodeFrame [0x08, 0x03, 0x05] = some (.discardOrder 3) := by decide

theorem test_frame_order_unknown_action : decodeFrame [0x08, 0x03, 0x08] = some (.invalidCommand [0x08, 0x03, 0x08]) := by
  decide

theorem test_frame_write_config : decodeFrame [0x03, 0x00, 0x19, 0x08] = some (.configWrite 0x1908) := by decide

theorem test_frame_write_policy : decodeFrame [0x03, 0x1A, 0x00, 0x07] = some (.bankPolicyBWrite 2 7) := by decide

theorem test_frame_region :
    decodeFrame [0x05, 1, 7, 0, 0, 1, 0x1F, 0xFF, 0xFF, 0xF0] = some (.regionWrite 1 7 1 0x1FFFFF 0xF0) := by decide

theorem test_frame_too_short : decodeFrame [0x05, 1, 7, 0, 0, 1, 0x1F, 0xFF, 0xFF] = none := by decide

theorem test_frame_bits :
    bytesOfBits [false, false, false, false, true, true, false, true, true] = [0x0D] := by decide

theorem test_frame_out :
    ((List.range 5).map (Frame.byteOut ⟨1, .done, [0x12, 0x34], false⟩)) = [0, 0, 0, 0x12, 0x34] := by decide

/-! ## The S port -/

theorem test_read_wakes_an_off_bank :
    runs (.requestTaken readLine2) State.reset (fun t => t.bankState 0 == .waking .off &&
      t.queue == [⟨readLine2, .waiting .bank⟩]) = true := by decide

theorem test_write_absorbed_in_a_sleeping_bank :
    runs (.requestTaken writeLine2) (withRegion asleep) (fun t =>
      t.out.responses == [⟨1, 4, .ok, []⟩] && t.store.ageList == [0] &&
      (t.slotBytes 0).toList.take 4 == [some 0xAA, none, some 0xCC, none] && t.bankState 0 == .retain) = true := by decide

/-! ## The M port -/

theorem test_read_completion_is_overlaid :
    runs (.completion 1 .ok (Vector.replicate 8 0x99887766)) (withLine reading partial2) (fun t => t.out.responses == [⟨1, 3, .ok, [0x04037701]⟩] &&
        t.queue.isEmpty) = true := by decide

theorem test_drain_completion_frees_the_slot :
    runs (.completion 1 .ok noData) draining (fun t => t.store == { LineStore.reset with drainedLines := 1 } &&
      t.port.inFlight.isNone) = true := by decide

theorem test_access_timeout_answers_and_sticks :
    runs .accessTimeout reading (fun t => t.out.responses == [⟨1, 3, .eBank, []⟩] && t.bankState 0 == .stuck .retain &&
      (t.faults.records.map fun r => (r.report.kind, r.report.line)) == [(.accessTimeout, some 2)]) = true := by decide

/-! ## The banks -/

theorem test_settle_timeout :
    runs (.settleTimeout 0) (withBank State.reset 0 (moving (.waking .off) .active .off)) (fun t =>
      t.bankState 0 == .stuck .off && t.faults.hold[0] && t.irqStatus == 3) = true := by decide

theorem test_settle_from_off_sets_lost :
    runs (.statusLineChange 0 .active true) (withBank State.reset 0 (moving (.waking .off) .active .off)) (fun t =>
      t.bankState 0 == .active && t.banks[0].lost && t.irq.lost) = true := by decide

theorem test_unsolicited_change :
    runs (.statusLineChange 0 .off true) awake (fun t => t.bankState 0 == .stuck .retain &&
      t.banks[0].reported == .off) = true := by decide

theorem test_idle_timer_expiry :
    runs (.idleTimerExpiry 0) (withBank State.reset 0 { settledAt .active .active with idleTimer := .start 5 }) (fun t =>
      t.bankState 0 == .descending .retain && t.banks[0].request == .retain) = true := by decide

theorem test_off_timer_expiry :
    runs (.offTimerExpiry 0) (withBank State.reset 0 { settledAt .retain .retain with offTimer := .start 5 }) (fun t =>
      t.bankState 0 == .descending .off) = true := by decide

theorem test_age_expiry :
    runs (.ageExpiry 0) (withLine asleep { line2 with age := 100 }) (fun t =>
      t.causes[0] == ⟨true, false, false, false⟩ && t.bankState 0 == .waking .retain) = true := by decide

/-! ## The level inputs -/

theorem test_supwarn_assertion_of_an_empty_store :
    runs .supwarnAssertion State.reset (fun t => t.mode == .warn && t.safe && t.irq.safe) = true := by decide

theorem test_supwarn_negation_with_lines :
    runs .supwarnNegation { withLine asleep line2 with mode := .warn, pins := { Pins.reset with supwarn := true } }
      (fun t => t.mode == .recover && !t.safe) = true := by decide

theorem test_fltpass_assertion_releases :
    runs .fltpassAssertion { withRecord awake with queue := [⟨readLine2, .waiting .frozen⟩] } (fun t =>
      t.queue == [⟨readLine2, .issued⟩]) = true := by decide

theorem test_fltpass_negation_freezes :
    runs .fltpassNegation { withOp (withRecord awake) .zeroLine .clearEngine with queue := [⟨readLine2, .ready⟩], pins := { Pins.reset with fltpass := true } } (fun t =>
      t.queue == [⟨readLine2, .waiting .frozen⟩]) = true := by decide

theorem test_resetn_assertion :
    runs .resetnAssertion (withLine reading line2) (fun t => t.queue.isEmpty && t.out.responses.isEmpty &&
      t.port.inFlight.isNone && t.port.opNumber == 1 && t.regs.linesAtReset == 1 && t.store.fill == 1) = true := by decide

theorem test_resetn_negation_drains_on :
    runs .resetnNegation { withLine awake line2 with pins := { Pins.reset with resetn := true } } (fun t =>
      (t.port.inFlight.map InFlight.kind) == some .lineWrite) = true := by decide

theorem test_power_on_reset :
    runs .powerOnReset (withLine reading line2) (fun t => t == { State.reset with out := t.out }) = true := by decide

theorem test_power_on_reset_unsettled :
    runs .powerOnReset { State.reset with pins := { Pins.reset with pstat := updAt Pins.reset.pstat 5 fun _ => .fourth } }
      (fun t => t.bankState 5 == .stuck .off && t.faults.records.length == 1 && t.frozen 5) = true := by decide

theorem test_power_on_reset_with_mcs_low :
    runs .powerOnReset { State.reset with pins := { Pins.reset with mcsLow := true } } (fun t => t.awaitRise && t.pins.mcsLow) = true := by
  decide

/-- R189: a power-on reset in the frame of a STATUS: the next frame is taken only after the rise of MCS. -/
theorem test_power_on_reset_in_a_status_frame :
    runs .status awake (fun t => runs .powerOnReset t fun u =>
      u.awaitRise && runs (.hwmWrite 1) u (fun v => v == u) &&
        runs (.faultPopRemoval 0) u fun v => !v.pins.mcsLow && runs (.hwmWrite 1) v fun w => w.regs.hwm == 1) = true := by
  decide

theorem test_power_on_reset_after_a_frame :
    runs .status awake (fun t => runs (.faultPopRemoval 0) t fun u => runs .powerOnReset u fun v => !v.awaitRise) = true := by
  decide

/-- R187, R189: a frame that has begun does nothing; a power-on reset discards it. -/
theorem test_incomplete_frame :
    runs (.invalidCommand [0x03, 0x01]) awake (fun t => t == { awake with pins := { awake.pins with mcsLow := true } } &&
      runs .powerOnReset t fun u => u.awaitRise) = true := by decide

theorem test_power_on_reset_in_a_frame :
    runs .faultPop (withRecord awake) (fun t => runs .powerOnReset t fun u =>
      runs (.hwmWrite 1) u (fun v => v == u) && runs .powerOnReset u (fun v => v.awaitRise) &&
        runs (.faultPopRemoval 0) u fun v => runs (.hwmWrite 1) v fun w => w.regs.hwm == 1) = true := by decide

theorem test_completion_with_resetn_grants_nothing :
    runs (.completion 1 .ok noData) { reading with queue := reading.queue ++ [⟨⟨2, 5, 128, .read 1⟩, .ready⟩], pending := [.resetnAssertion] }
      (fun t => t.out.responses == [⟨1, 3, .ok, [0]⟩] && t.port.inFlight.isNone && t.out.issued.isEmpty &&
        runs .resetnAssertion { t with pending := [] } fun u => u.out == t.out && u.port == t.port) = true := by decide

theorem test_completion_grants_the_next :
    runs (.completion 1 .ok noData) { reading with queue := reading.queue ++ [⟨⟨2, 5, 128, .read 1⟩, .ready⟩] }
      (fun t => t.out.issued == [⟨2, .wordRead 128 1⟩]) = true := by decide

/-! ## The management port -/

theorem test_invalid_command : onlyReplies (.invalidCommand [0x07]) awake .badarg = true := by decide

theorem test_status :
    runs .status (withLine awake line2) (fun t => ((t.mgmt.map Frame.results).getD []).take 15 ==
      [0, 0, 1, 0, 0, 0, 0, 0, 0, 0, 0, 0, 0, 0, 0]) = true := by decide

theorem test_counter_high_read :
    runs (.counterHighRead 0x09) { State.reset with store := { LineStore.reset with absorbedWrites := 0x00020003 } }
      (fun t => t.regs.absorbedLow == 3 && (t.mgmt.map Frame.results) == some [0, 2]) = true := by decide

theorem test_reg_write_settle_limit :
    runs (.regWrite 0x03 255) State.reset (fun t => t.regs.settleLimit == 255) = true := by decide

theorem test_reg_write_settle_limit_zero : onlyReplies (.regWrite 0x03 0) State.reset .badarg = true := by decide

theorem test_config_write :
    runs (.configWrite 0x1904) State.reset (fun t => t.regs.banksFitted == 4 && t.regs.tickDiv == 25 && !t.fitted 4) = true :=
  by decide

theorem test_config_write_refused : onlyReplies (.configWrite 0x1904) awake .refused = true := by decide

theorem test_hwm_write :
    runs (.hwmWrite 1) (withLine asleep line2) (fun t => (t.causes[0]).pressure && t.bankState 0 == .waking .retain) = true :=
  by decide

theorem test_age_limit_write :
    runs (.ageLimitWrite 3) (withLine asleep { line2 with age := 3 }) (fun t => (t.causes[0]).age) = true := by decide

theorem test_irq_status_write :
    runs (.irqStatusWrite 0x0C) { State.reset with irq := ⟨true, true, true, 0⟩ } (fun t =>
      t.irq == ⟨false, false, true, 0⟩) = true := by decide

theorem test_irq_enable_write :
    runs (.irqEnableWrite 0x10) { State.reset with irq := ⟨false, false, true, 0⟩ } (fun t => t.irqAsserted) = true := by decide

theorem test_reset_record_write : onlyReplies (.resetRecordWrite 1) State.reset .badarg = true := by decide

theorem test_bank_policy_a_write :
    runs (.bankPolicyAWrite 0 0x5005) awake (fun t =>
      t.regs.policy[0] == ⟨5, true, false, true, 0⟩ && t.banks[0].idleTimer == .running 5 0) = true := by decide

theorem test_bank_policy_b_write :
    runs (.bankPolicyBWrite 7 4095) awake (fun t => t.regs.policy[7].offDelay == 4095) = true := by decide

theorem test_region_write_and_read :
    runs (.regionWrite 2 0xFF 1 0x1FFFFF 0x80) awake (fun t => runs (.regionRead 2) t fun u =>
      (u.mgmt.map Frame.results) == some [7, 0, 0, 1, 0x1F, 0xFF, 0xFF, 0x80]) = true := by decide

theorem test_slot_read_of_a_line :
    runs (.slotRead 0) (withLine awake line2) (fun t => ((t.mgmt.map Frame.results).getD []).take 12 ==
      [1, 0, 0, 2, 0, 0, 0, 15, 1, 2, 3, 4]) = true := by decide

theorem test_wake_order :
    runs (.wakeOrder 0) asleep (fun t => t.bankState 0 == .waking .retain && t.banks[0].wakeCount == 1) = true := by decide

theorem test_retain_order : runs (.retainOrder 0) awake (fun t => t.bankState 0 == .descending .retain) = true := by decide

theorem test_off_order_busy : onlyReplies (.offOrder 0) (withOp awake .zeroLine .clearEngine) .busy = true := by decide

theorem test_off_order : runs (.offOrder 0) awake (fun t => t.bankState 0 == .descending .off) = true := by decide

theorem test_retry_order : runs (.retryOrder 0) stuck (fun t => t.bankState 0 == .waking .retain) = true := by decide

theorem test_discard_order :
    runs (.discardOrder 0) (withLine stuck line2) (fun t => t.bankState 0 == .descending .off && t.store.fill == 0 &&
      (t.faults.records.map fun r => r.report.count) == [some 1] && t.banks[0].lost) = true := by decide

theorem test_clear_order :
    runs (.clearOrder 0) awake (fun t => t.bankState 0 == .clearing .retain && t.clear.queue == [0] &&
      t.out.issued == [⟨1, .zeroLine 0⟩]) = true := by decide

theorem test_unlost_order : runs (.unlostOrder 0) awake (fun t => !t.banks[0].lost) = true := by decide

theorem test_flush :
    runs (.flush 0) (withLine asleep line2) (fun t => (t.causes[0]).flush && t.bankState 0 == .waking .retain) = true := by
  decide

theorem test_flush_all :
    runs .flushAll (withLine awake line2) (fun t => (t.causes[0]).flush && !(t.causes[1]).flush &&
      t.out.issued == [⟨1, .lineWrite 64 line2.bytes⟩]) = true := by decide

theorem test_fault_peek : onlyReplies .faultPeek State.reset .empty = true := by decide

theorem test_fault_pop_and_removal :
    runs .faultPop (withRecord awake) (fun t => runs (.faultPopRemoval 16) t fun u =>
      u.faults.records.isEmpty && !u.faults.hold[0] && u.faults.nextSeq == 1) = true := by decide

theorem test_fault_pop_broken :
    runs .faultPop (withRecord awake) (fun t => runs (.faultPopRemoval 15) t fun u =>
      u.faults.records.length == 1 && u.mgmt.isNone) = true := by decide

theorem test_clear_unlogged :
    runs (.clearUnlogged 0) { State.reset with faults := unloggedLog } (fun t => t.faults == FaultLog.reset) = true := by decide

theorem test_millisecond_step :
    runs .millisecondCounterStep (withLine asleep line2) (fun t => t.clock.msTime == 1 && t.clock.tenMilli == 1 &&
      (t.store.slots[0].map Line.age) == some 1) = true := by decide

theorem test_first_millisecond_step_begins_the_age :
    runs .millisecondCounterStep (withLine asleep { line2 with ageRuns := false }) (fun t =>
      (t.store.slots[0].map Line.age) == some 0 && (t.store.slots[0].map Line.ageRuns) == some true) = true := by decide

/-! ## States and operands that meet the hypotheses of the statements -/

/-- A state with bank 0 ACTIVE and a command waiting. -/
def ready : State := { awake with pending := [.status] }

theorem witness_StepTakesTheFrontCommand : ready.pending = .status :: [] := rfl

theorem witness_IdleStepsRunTheTimebase :
    awake.pending = [] ∧ awake.dueEvent = none ∧ (withLine awake { line2 with age := 100 }).dueEvent = some (.ageExpiry 0) ∧
      awake.clock.divider + 1 < awake.regs.tickDiv.toNat ∧
      (let c : Timebase := ⟨24, 9, 99, 999, 9, 65535⟩; { awake with clock := c }.regs.tickDiv.toNat ≤ c.divider + 1) := by
  decide

theorem witness_IdleStepsRunTheTimebase_due :
    (withOp awake .zeroLine .clearEngine).dueEvent = none ∧
      { reading with port := { reading.port with inFlight := some ⟨.wordRead, 1, 0, 64, 1, .entry, .running 64 65⟩ } }.dueEvent =
        some .accessTimeout ∧
      (withBank awake 0 { moving (.waking .off) .active .off with settleTimer := .running 50 51 }).dueEvent =
        some (.settleTimeout 0) ∧
      (withBank awake 0 { settledAt .active .active with idleTimer := .running 5 6 }).dueEvent = some (.idleTimerExpiry 0) ∧
      (withBank awake 0 { settledAt .retain .retain with offTimer := .running 5 6 }).dueEvent = some (.offTimerExpiry 0) ∧
      (withBank awake 0 { settledAt .retain .retain with offTimer := .running 5 5 }).dueEvent = none := by decide

theorem witness_PowerOnResetGivesThePowerOnValues :
    (Instr.hwmWrite 1).isFrameCommand = true ∧ (Instr.hwmWrite 1).wellFormed = true ∧ waiting.awaitRise = true ∧
      runs (.hwmWrite 1) waiting (fun t => t == waiting) = true := by decide

theorem witness_ResetRegistersReadAsTheTableGives : (0x00 : Byte).toNat < 0x28 ∧ (0x27 : Byte).toNat < 0x28 := by decide

theorem witness_FramesCarryTheirCommand :
    (Instr.invalidCommand [0x08, 0, 8]).wellFormed = true ∧ encodeFrame (.invalidCommand [0x08, 0, 8]) = some [0x08, 0, 8] ∧
      (Instr.regWrite 0x28 0xFFFF).wellFormed = true ∧ encodeFrame (.regWrite 0x28 0xFFFF) = some [3, 0x28, 0xFF, 0xFF] := by
  decide

/-- A frame of one argument byte and two results: each place of it. -/
theorem witness_FramesCarryTheirCommand_bytes :
    let f : Frame := ⟨1, .refused, [0x12, 0x34], false⟩
    f.byteOut 0 = 0 ∧ f.byteOut 1 = 0 ∧ f.byteOut 2 = 3 ∧ f.results[0]? = some 0x12 ∧ f.byteOut 3 = 0x12 ∧
      f.results[1]? = some 0x34 ∧ f.byteOut 4 = 0x34 ∧ f.byteOut 5 = 0 ∧
      0 < [false, false, false, false, true, true, false, true, true].length / 8 ∧
      bytesOfBits [true, true, true, true, true, true, true] = [] := by decide

theorem witness_step : ∃ t, step ready = .next t := ⟨_, rfl⟩

theorem witness_StepKeepsTheLogOrdered : ready.LogOrdered := ⟨by decide, fun k r h => by cases h⟩

theorem witness_StepKeepsHoldsAndOverflowExact : ready.HoldsExact ∧ ready.OverflowExact :=
  ⟨show ∀ b : BankNo, _ = _ by decide, show (_ ↔ ∃ b : BankNo, _ = true) by decide⟩

theorem witness_StepKeepsTheQueueBounded : ready.QueueBounded :=
  ⟨by decide, show ∀ i : Initiator, ready.unanswered i ≤ Config.unansweredLimit by decide⟩

theorem witness_no_lines (i : SlotNo) : ready.store.slots[i] = none := by revert i; decide

theorem witness_StepKeepsTheStoreOrdered : ready.StoreOrdered ∧ ready.LinesNotEmpty := by
  refine ⟨⟨by decide, ?_, ?_⟩, ?_⟩
  · exact show ∀ i : SlotNo, i ∈ ready.store.ageList ↔ (ready.store.slots[i]).isSome = true by decide
  · intro i j l m h; rw [witness_no_lines] at h; cases h
  · intro i l h; rw [witness_no_lines] at h; cases h

theorem witness_StepKeepsDrainsInFlight : ready.DrainInFlight := by
  intro i l h; rw [witness_no_lines] at h; cases h

theorem witness_StepKeepsDrainFlagsExact : ready.FlagsHaveLines ∧ ready.OnePressureBank :=
  ⟨show ∀ b : BankNo, ready.drainWanted b = true → ready.lineCount b ≠ 0 by decide,
    show ∀ b c : BankNo, (ready.causes[b]).pressure = true → (ready.causes[c]).pressure = true → b = c by decide⟩

theorem witness_ClearQueueExact : ready.ClearQueueExact :=
  ⟨by decide, show ∀ b : BankNo, b ∈ ready.clear.queue ↔ (ready.bankState b).isClearing = true by decide⟩

theorem witness_StepKeepsEntriesInTheirOrder : ready.EntriesInOrder ∧ ready.IssuedInFlight := by
  refine ⟨fun k e h => ?_, by decide, ⟨fun h => ?_, fun h => ?_⟩, fun op h => ?_⟩
  · cases k <;> cases h
  · obtain ⟨e, he, _⟩ := h; cases he
  · obtain ⟨op, ho, _⟩ := h; cases ho
  · cases h

/-- The queue of `reading`: its one entry is ISSUED, at head, and in flight. -/
theorem witness_EntriesInOrder_issued : reading.EntriesInOrder ∧ reading.IssuedInFlight := by
  refine ⟨fun k e h => ?_, by decide, ⟨fun _ => ⟨_, rfl, rfl⟩, fun _ => ⟨⟨readLine2, .issued⟩, by decide, rfl⟩⟩, fun op h _ => ?_⟩
  · match k, h with
    | 0, h => cases h; decide
    | k + 1, h => cases h
  · cases h; decide

theorem witness_ResponsesLeaveInTheOrderTaken :
    reading.sentTags 1 ++ reading.waitingTags 1 = [3] ∧ reading.mayTake writeLine2 = true ∧
      runs (.completion 1 .ok noData) reading (fun t => t.sentTags 1 == [3] && t.waitingTags 1 == []) = true ∧
      runs (.requestTaken writeLine2) reading (fun t => t.sentTags 1 ++ t.waitingTags 1 == [3, 4]) = true := by decide

theorem witness_HandshakeOfEveryBank : ∀ b : BankNo, ready.HandshakeOf b := by
  intro b
  match b with
  | 0 => exact ⟨rfl, rfl, rfl⟩
  | 1 => exact ⟨rfl, rfl, rfl⟩
  | 2 => exact ⟨rfl, rfl, rfl⟩
  | 3 => exact ⟨rfl, rfl, rfl⟩
  | 4 => exact ⟨rfl, rfl, rfl⟩
  | 5 => exact ⟨rfl, rfl, rfl⟩
  | 6 => exact ⟨rfl, rfl, rfl⟩
  | 7 => exact ⟨rfl, rfl, rfl⟩

theorem witness_StepKeepsTheHandshakeAndTheClearQueue : (∀ b : BankNo, ready.HandshakeOf b) ∧ ready.ClearQueueExact :=
  ⟨witness_HandshakeOfEveryBank, witness_ClearQueueExact⟩

theorem witness_StepKeepsRegistersAndModeLegal : ready.RegistersInRange ∧ ready.ModeFollowsInput := by
  refine ⟨?_, ?_, ?_⟩
  · unfold State.RegistersInRange; decide
  · decide
  · decide

theorem witness_StepKeepsFrozenBanksUnready : ready.FrozenHaveNoReady := fun e h => by cases h

theorem witness_StepKeepsTimersWithTheirConditions : ready.TimersFollowConditions :=
  show ∀ b : BankNo, ready.banks[b].idleTimer.isRunning = ready.idleConditions b ∧
    ready.banks[b].offTimer.isRunning = ready.offConditions b by decide

theorem witness_StepKeepsTimers_start :
    (Timer.stopped).isRunning = false ∧ awake.banks[0].idleTimer.isRunning = false ∧
      runs (.bankPolicyAWrite 0 5) awake (fun t => t.banks[0].idleTimer == .running 5 0) = true := by decide

theorem witness_StepLeavesNoWorkAtAFreePort : ready.NoWorkAtFreePort := fun _ _ _ => by decide

theorem witness_StepKeepsSleepersWithoutLines : ready.SleepersHoldNoLines :=
  show ∀ b : BankNo, (State.holdsNoLines (ready.bankState b) = true → ready.lineCount b = 0) ∧
    (ready.clear.wanted[b] = true → ready.lineCount b = 0) ∧
    (ready.banks[b].offTimer.isRunning = true → ready.lineCount b = 0) by decide

theorem witness_OnlyTheirCommands_clearQueue : stuck.ClearQueueExact :=
  ⟨by decide, show ∀ b : BankNo, b ∈ stuck.clear.queue ↔ (stuck.bankState b).isClearing = true by decide⟩

theorem witness_OnlyTheirCommandsWriteTheseBlocks :
    Instr.status.wellFormed = true ∧ (withLine awake line2).store.slots[(0 : SlotNo)] = some line2 ∧
      (stuck.bankState 0).isStuck = true ∧ awake.banks[0].lost = true ∧ (clearing 5).clear.queue ≠ [] ∧
      reading.port.inFlight = some ⟨.wordRead, 1, 0, 64, 1, .entry, .start 64⟩ ∧ (Instr.requestTaken readLine2).isFrameCommand = false ∧
      ∃ t, exec .status awake = .next t := ⟨rfl, by decide, by decide, by decide, by decide, by decide, by decide, _, rfl⟩

theorem witness_EachEventIssuesAtMostOneOperation :
    runs .flushAll (withLine awake line2) (fun t => t.out.issued.length == 1) = true := by decide

/-- What the operation of an entry, of a slot and of the Clear Engine carry. -/
theorem witness_EachEventIssues_carries :
    reading.Carries ⟨.wordRead, 1, 0, 64, 1, .entry, .start 64⟩ (.wordRead 64 1) ∧
      draining.Carries ⟨.lineWrite, 1, 0, 64, 8, .slot 0, .start 64⟩ (.lineWrite 64 line2.bytes) ∧
      (clearing 5).Carries ⟨.zeroLine, 1, 0, 160, 8, .clearEngine, .start 64⟩ (.zeroLine 160) :=
  ⟨⟨⟨readLine2, .issued⟩, by decide, rfl, rfl, rfl, rfl, rfl, rfl⟩,
    ⟨_, rfl, rfl, rfl, rfl, rfl, rfl, by decide, rfl, by decide⟩, rfl, rfl, rfl, by decide, rfl, rfl⟩

/-- Reset with a full Hold Queue: two entries of each initiator. -/
def full : State :=
  { State.reset with queue := (List.range 16).map fun n => ⟨⟨Fin.ofNat 8 n, 0, 0, .read 1⟩, .waiting .order⟩ }

theorem witness_RequestsWaitOutsideOrInOrder :
    (Request.mk 0 0 0 (.read 9)).presentable = false ∧ (Request.mk 0 0 0 (.read 8)).presentable = true ∧
      16 ≤ full.queue.length ∧ reading.pins.resetn = false ∧ reading.queue.length < 16 ∧
      reading.unanswered readLine2.initiator ≠ 0 ∧ reading.unanswered readLine2.initiator < 4 ∧
      4 ≤ { reading with queue := List.replicate 4 ⟨readLine2, .waiting .order⟩ }.unanswered readLine2.initiator := by
  decide

theorem witness_FirstEvaluationTakesItsOutcome :
    readLine2.presentable = true ∧ awake.pins.resetn = false ∧ awake.queue.length < 16 ∧
      awake.unanswered readLine2.initiator = 0 ∧ awake.HandshakeOf readLine2.bank ∧
      asleep.HandshakeOf readLine2.bank ∧ State.reset.HandshakeOf readLine2.bank :=
  ⟨by decide, by decide, by decide, by decide, ⟨rfl, rfl, rfl⟩, ⟨rfl, rfl, rfl⟩, ⟨rfl, rfl, rfl⟩⟩

theorem witness_FirstEvaluation_outcomes :
    awake.judge ⟨1, 3, 66, .read 1⟩ = .refused .eDecode ∧ awake.judge ⟨1, 3, 64, .write [⟨0, 0⟩]⟩ = .noEffect ∧
      (withLine awake line2).judge readLine2 = .served 0 ∧ (withLine asleep line2).judge writeLine2 = .merged 0 ∧
      (withRegion asleep).judge writeLine2 = .allocated 0 ∧ awake.judge readLine2 = .forwarded ∧
      asleep.judge readLine2 = .held .bank ∧ (withRecord awake).judge readLine2 = .held .frozen := by decide

/-- Bank 0 ACTIVE with entries of four initiators: WAITING at head, FAILED, READY, and behind the first. -/
def walked : State :=
  { awake with queue := [⟨readLine2, .waiting .bank⟩, ⟨⟨2, 0, 64, .read 1⟩, .failed⟩, ⟨⟨3, 0, 64, .read 1⟩, .ready⟩,
      ⟨writeLine2, .waiting .order⟩] }

theorem witness_WalksReevaluateTheOldestFirst :
    walked.queue[(4 : Nat)]? = none ∧ walked.queue[(0 : Nat)]? = some ⟨readLine2, .waiting .bank⟩ ∧
      State.walkRule walked 0 ⟨readLine2, .waiting .bank⟩ = .evaluate ∧ walked.judge readLine2 = .forwarded ∧
      State.walkRule walked 1 ⟨⟨2, 0, 64, .read 1⟩, .failed⟩ = .fail ∧
      State.walkRule walked 2 ⟨⟨3, 0, 64, .read 1⟩, .ready⟩ = .pass ∧
      State.walkRule walked 3 ⟨writeLine2, .waiting .order⟩ = .pass ∧
      State.freezeRule awake (withRecord awake) walked 2 ⟨⟨3, 0, 64, .read 1⟩, .ready⟩ = .evaluate ∧
      walked.releaseWalk.queue = [⟨readLine2, .ready⟩, ⟨⟨3, 0, 64, .read 1⟩, .ready⟩, ⟨writeLine2, .waiting .order⟩] ∧
      walked.releaseWalk.out.responses = [⟨2, 0, .eBank, []⟩] := by decide

theorem witness_DecisionFollowsItsTable :
    (64 : ByteAddr).toNat % 4 = 0 ∧ readLine2.address.toNat % 32 / 4 + readLine2.count ≤ 8 ∧
      readLine2.bank.val < awake.regs.banksFitted.toNat ∧ readLine2.isZeroEnable = false ∧
      (withLine awake line2).store.lookup readLine2.line = some 0 ∧
      covers ((withLine awake line2).store.bytesOfLine readLine2.line) readLine2 = true ∧
      (Request.mk 1 3 92 (.read 2)).address.toNat % 32 / 4 + (Request.mk 1 3 92 (.read 2)).count = 9 ∧
      (withRegion asleep).mode = .normal ∧ ((withRegion asleep).attributes writeLine2).absorb = true ∧
      ((withRegion asleep).bankState writeLine2.bank).mayAllocate = true ∧
      (withRegion asleep).wordWriteInFlight writeLine2.line = false ∧
      awake.banks[0].lost = true ∧ (stuck.bankState 0).isStuck = true ∧ (withRecord awake).frozen 0 = true := by decide

theorem witness_DecisionFollowsItsTable_lookup :
    (withLine awake line2).store.lookup 2 = some 0 ∧ (withLine awake line2).store.lookup 3 = none ∧
      readLine2.address.toNat % 32 / 4 + readLine2.count ≤ 8 ∧ covers line2.bytes readLine2 = true ∧
      covers line2.bytes ⟨1, 3, 64, .read 2⟩ = false ∧
      (Request.mk 1 3 88 (.read 2)).address.toNat % 32 / 4 + (Request.mk 1 3 88 (.read 2)).count = 8 := by decide

theorem witness_RegionTableGivesTheFirstMatch :
    ((withRegion awake).regions[(0 : Fin 8)]).valid = true ∧
      ((withRegion awake).regions[(0 : Fin 8)]).base ≤ readLine2.line ∧
      readLine2.line ≤ ((withRegion awake).regions[(0 : Fin 8)]).limit ∧
      ((withRegion awake).regions[(0 : Fin 8)]).initiators.getLsbD readLine2.initiator.val = true ∧
      (∀ g : Fin 8, ¬(awake.regions[g]).valid = true) := by decide

theorem witness_BytesStandAtTheirAddress :
    writeLine2.address.toNat % 32 / 4 + writeLine2.count ≤ 8 ∧ 0 < writeLine2.count ∧
      writeLine2.words[0]? = some ⟨0xDDCCBBAA, 0b0101⟩ := by decide

theorem witness_LateCompletionOnlyCounts :
    (awake.port.inFlight.all fun op => op.number != 9) = true ∧ (reading.port.inFlight.all fun op => op.number != 9) = true ∧
      awake.awaitRise = false := by decide

theorem witness_WordCompletionAnswersItsEntry :
    (reading.port.inFlight.map InFlight.presenter) = some .entry ∧
      reading.queue.findIdx? (fun e => e.status == .issued) = some 0 ∧ reading.queue[0]? = some ⟨readLine2, .issued⟩ := by
  decide

/-- At the completion of its one entry an ACTIVE bank's idle timer starts afresh with RETAIN DELAY. -/
theorem witness_WordCompletion_idleTimer :
    let s := { reading with regs := { Registers.reset with policy := Vector.replicate 8 { Policy.reset with retainDelay := 7 } } }
    runs (.completion 1 .ok noData) s (fun t => t.port.inFlight.isNone && t.idleConditions 0 &&
      t.banks[0].idleTimer == .running 7 0) = true := by decide

theorem witness_DrainCompletionFreesRenewsOrRecords :
    (draining.port.inFlight.map InFlight.presenter) = some (.slot 0) ∧ slotIs .draining draining.store.slots[(0 : SlotNo)] = true ∧
      (draining.store.slots[(0 : SlotNo)].map Line.redirty) = some false ∧ draining.queue = [] ∧
      draining.lineCount 0 = 1 ∧ draining.store.fill = 1 ∧
      slotIs .draining (withOp awake .lineWrite (.slot 0)).store.slots[(0 : SlotNo)] = false := by decide

theorem witness_DrainCompletion_redirty :
    let s := withOp (withLine awake { line2 with state := .draining, redirty := true }) .lineWrite (.slot 0)
    (s.port.inFlight.map InFlight.presenter) = some (.slot 0) ∧ slotIs .draining s.store.slots[(0 : SlotNo)] = true ∧
      (s.store.slots[(0 : SlotNo)].map Line.redirty) = some true ∧ s.queue = [] := by decide

theorem witness_ZeroLineCompletionAdvancesTheClear :
    ((clearing 0).port.inFlight.map InFlight.presenter) = some .clearEngine ∧ (clearing 0).clear.outstanding = true ∧
      (clearing 0).clear.queue.head? = some 0 ∧ ((clearing 0).bankState 0).isClearing = true ∧
      (clearing 262142).clear.cursor.toNat < 262143 ∧ (clearing 262143).clear.cursor.toNat = 262143 ∧
      (withOp awake .zeroLine .clearEngine).clear.outstanding = false := by decide

theorem witness_AccessTimeoutMakesItsBankStuck :
    reading.port.inFlight.isSome = true ∧ draining.port.inFlight.isSome = true ∧ reading.fitted 0 = true ∧
      line2.bank = 0 ∧ reading.atHead 0 ⟨readLine2, .issued⟩ = true := by decide

/-- A state with a flagged line and a READY entry of ACTIVE bank 0. -/
def contested : State :=
  { withLine awake line2 with
    causes := updAt awake.causes 0 fun _ => ⟨false, false, true, false⟩
    queue := [⟨⟨1, 3, 128, .read 1⟩, .ready⟩] }

theorem witness_AlternationFlagTakesTurns :
    contested.drainOffer = some (0, .drainWanted) ∧ contested.readyEntry = some 0 ∧ 0 < contested.queue.length ∧
      (contested.store.slots[(0 : SlotNo)]).isSome = true ∧ contested.pins.resetn = false := by decide

/-- A store whose one line is a HELD line of ACTIVE bank 0, in a mode. -/
def drainable (m : WarnMode) : State := { withLine awake line2 with mode := m }

theorem witness_AlternationFlagTakesTurns_rows :
    (drainable .warn).drainOffer = some (0, .urgent) ∧ (drainable .recover).mode ≠ .normal ∧
      (drainable .warn).choice = some (.drain 0 .urgent) ∧
      { contested with queue := [] }.drainOffer = some (0, .drainWanted) ∧ { contested with queue := [] }.readyEntry = none ∧
      { contested with causes := awake.causes }.drainOffer = some (0, .drain) ∧
      { contested with causes := awake.causes }.choice = some (.entry 0) ∧
      (drainable .normal).choice = some (.drain 0 .drain) ∧ (drainable .normal).readyEntry = none ∧
      { clearing 5 with port := MemoryPort.reset, clear := { (clearing 5).clear with outstanding := false } }.choice =
        some (.zeroLine 0) ∧
      (clearing 5).drainOffer = none ∧ (clearing 5).readyEntry = none ∧ (clearing 5).zeroLineOffer = none ∧
      awake.port.inFlight = none ∧ awake.pins.resetn = false := by decide

theorem witness_AlternationFlagTakesTurns_candidates :
    (drainable .normal).IsDrainCandidate false 0 ∧ contested.IsDrainCandidate true 0 ∧
      contested.FirstInAgeList (contested.IsDrainCandidate true) 0 :=
  have held : ∀ f : Bool, (f = true → contested.drainWanted line2.bank = true) → contested.IsDrainCandidate f 0 :=
    fun _ h => ⟨line2, by decide, rfl, by decide, h⟩
  have wanted : contested.IsDrainCandidate true 0 := held true fun _ => by decide
  ⟨⟨line2, by decide, rfl, by decide, fun h => by cases h⟩, wanted, [], [], rfl, wanted, fun _ h => by cases h⟩

/-- A Clear Engine with bank 0 pending. -/
def clearWanted : ClearEngine := { ClearEngine.reset with wanted := updAt ClearEngine.reset.wanted 0 fun _ => true }

/-- Bank 0 WAKING or DESCENDING. -/
def inMove (st : BankState) (level : Level) (reported : StatusLevel) : State :=
  withBank State.reset 0 (moving st level reported)

theorem witness_StatusLinesEndTransitions :
    (inMove (.waking .retain) .active .retain).HandshakeOf 0 ∧ (inMove (.waking .off) .active .off).HandshakeOf 0 ∧
      (inMove (.descending .off) .off .active).HandshakeOf 0 ∧
      (inMove (.descending .retain) .retain .active).HandshakeOf 0 ∧ stuck.HandshakeOf 0 :=
  ⟨⟨rfl, rfl, rfl⟩, ⟨rfl, rfl, rfl⟩, ⟨rfl, rfl, rfl⟩, ⟨rfl, rfl, rfl⟩, rfl⟩

theorem witness_StatusLinesEndTransitions_clauses :
    (inMove (.descending .off) .off .active).fitted 0 = true ∧
      (inMove (.descending .off) .off .active).wakeDemand 0 = false ∧
      (inMove (.descending .off) .off .active).banks[0].pendingWake = false ∧
      (inMove (.descending .off) .off .active).pressure = false ∧
      { inMove (.descending .off) .off .active with clear := clearWanted }.wakeDemand 0 = true ∧
      ((inMove (.waking .off) .active .off).bankState 0).inTransition = true := by decide

theorem witness_StatusLinesEndTransitions_walk :
    (∀ b, (inMove (.waking .retain) .active .retain).HandshakeOf b) ∧ (∀ b, (inMove (.waking .off) .active .off).HandshakeOf b) ∧
      (inMove (.waking .off) .active .off).clear.wanted[0] = false ∧
      (inMove (.waking .off) .active .off).regs.policy[0].clearOnWake = false ∧
      runs (.statusLineChange 0 .active true) { inMove (.waking .retain) .active .retain with queue := [⟨readLine2, .waiting .bank⟩] }
        (fun t => t.queue == [⟨readLine2, .issued⟩]) = true :=
  ⟨allBanks ⟨rfl, rfl, rfl⟩ ⟨rfl, rfl, rfl⟩ ⟨rfl, rfl, rfl⟩ ⟨rfl, rfl, rfl⟩ ⟨rfl, rfl, rfl⟩ ⟨rfl, rfl, rfl⟩ ⟨rfl, rfl, rfl⟩
      ⟨rfl, rfl, rfl⟩,
    allBanks ⟨rfl, rfl, rfl⟩ ⟨rfl, rfl, rfl⟩ ⟨rfl, rfl, rfl⟩ ⟨rfl, rfl, rfl⟩ ⟨rfl, rfl, rfl⟩ ⟨rfl, rfl, rfl⟩ ⟨rfl, rfl, rfl⟩
      ⟨rfl, rfl, rfl⟩, by decide, by decide, by decide⟩

theorem witness_FailuresMakeABankStuck_entries :
    walked.queue[(0 : Nat)]? = some ⟨readLine2, .waiting .bank⟩ ∧ walked.atHead 0 ⟨readLine2, .waiting .bank⟩ = true ∧
      readLine2.bank = 0 ∧ (Entry.mk readLine2 (.waiting .bank)).status ≠ .issued ∧
      runs (.statusLineChange 0 .off true) walked (fun t => t.out.responses.contains ⟨1, 3, .eBank, []⟩) = true := by decide

theorem witness_FailuresMakeABankStuck :
    ((inMove (.waking .off) .active .off).bankState 0).inTransition = true ∧
      (inMove (.waking .off) .active .off).banks[0].settleTimer.isRunning = true ∧
      (awake.bankState 0).inTransition = false ∧ (awake.bankState 0).isStuck = false ∧
      StatusLevel.fourth ≠ awake.banks[0].reported ∧ awake.banks[0].settled = true ∧ awake.fitted 0 = true := by decide

theorem witness_ExpiriesLowerOrFlagTheBank :
    ({ settledAt .active .active with idleTimer := .start 1 }).idleTimer.isRunning = true ∧
      (withLine asleep { line2 with age := 100 }).ageExpired 0 = true ∧
      (withLine asleep { line2 with age := 100 }).drainWanted 0 = false ∧
      (withLine asleep { line2 with age := 99 }).ageExpired 0 = false := by decide

theorem witness_ExpiriesLowerOrFlagTheBank_stopped :
    awake.port.inFlight = none ∧ awake.banks[0].settleTimer.isRunning = false ∧
      awake.banks[0].idleTimer.isRunning = false ∧ awake.banks[0].offTimer.isRunning = false ∧
      awake.ageExpired 0 = false := by decide

theorem witness_ExpiriesLowerOrFlagTheBank_handshake :
    (withBank State.reset 0 { settledAt .active .active with idleTimer := .start 1 }).HandshakeOf 0 ∧
      (withBank State.reset 0 { settledAt .retain .retain with offTimer := .start 1 }).HandshakeOf 0 ∧
      (withLine asleep { line2 with age := 100 }).HandshakeOf 0 :=
  ⟨⟨rfl, rfl, rfl⟩, ⟨rfl, rfl, rfl⟩, ⟨rfl, rfl, rfl⟩⟩

/-- A log with a number of records of bank 1. -/
def logOf (n : Nat) : State :=
  (List.range n).foldl (fun s _ => s.handFault ⟨.settleTimeout, 1, none, none, none, some 0⟩) State.reset

theorem witness_FaultsJoinTheLogOrAreCounted :
    (logOf 7).faults.records.length = 7 ∧ (logOf 8).faults.records.length = 8 ∧ (logOf 9).faults.overflow = 1 := by decide

theorem witness_FaultPeekReportsTheHead :
    State.reset.faults.records = [] ∧ State.reset.awaitRise = false ∧ (logOf 2).awaitRise = false ∧
      (logOf 2).faults.records.head? = some ⟨0, 0, ⟨.settleTimeout, 1, none, none, none, some 0⟩⟩ :=
  by decide

/-- A log of one record, of bank 0, whose removal a FAULT POP has marked. -/
def popping : State := { withRecord awake with mgmt := some ⟨0, .done, [], true⟩ }

theorem witness_FaultPopRemoves_walk :
    popping.mgmt = some ⟨0, .done, [], true⟩ ∧ popping.faults.records.length = 1 ∧ popping.faults.hold[0] = true ∧
      popping.awaitRise = false ∧ runs (.faultPopRemoval 16) popping (fun t => !t.faults.hold[0]) = true ∧
      runs (.faultPopRemoval 16) { popping with queue := [⟨readLine2, .waiting .frozen⟩] }
        (fun t => t.queue == [⟨readLine2, .issued⟩]) = true := by decide

/-- The banks of `awake` under another log. -/
theorem awake_handshake (f : FaultLog) : ∀ b, ({ awake with faults := f } : State).HandshakeOf b :=
  allBanks ⟨rfl, rfl, rfl⟩ ⟨rfl, rfl, rfl⟩ ⟨rfl, rfl, rfl⟩ ⟨rfl, rfl, rfl⟩ ⟨rfl, rfl, rfl⟩ ⟨rfl, rfl, rfl⟩ ⟨rfl, rfl, rfl⟩
    ⟨rfl, rfl, rfl⟩

theorem witness_FaultPopRemoves_handshake : ∀ b, popping.HandshakeOf b := awake_handshake popping.faults

theorem witness_FaultPopRemovesAtTheFramesEnd :
    runs .faultPop (logOf 1) (fun t => (t.mgmt.map Frame.popMarked) == some true) = true ∧
      runs .faultPeek (logOf 1) (fun t => (t.mgmt.map Frame.popMarked) == some false) = true ∧ State.reset.mgmt = none := by
  decide

theorem witness_ClearUnloggedClearsMarkCountAndHold :
    8 ≤ (8 : Byte).toNat ∧ (7 : Byte).toNat = (7 : BankNo).val ∧ awake.awaitRise = false := by decide

theorem witness_ClearUnlogged_walk :
    (∀ b, ({ awake with faults := unloggedLog } : State).HandshakeOf b) ∧ unloggedLog.hold[0] = true ∧
      runs (.clearUnlogged 0) { awake with faults := unloggedLog, queue := [⟨readLine2, .waiting .frozen⟩] }
        (fun t => !t.faults.hold[0] && t.queue == [⟨readLine2, .issued⟩]) = true :=
  ⟨awake_handshake unloggedLog, by decide, by decide⟩

theorem witness_SupplyWarningSetsTheMode :
    awake.pins.supwarn = false ∧ awake.mode ≠ .warn ∧ (withLine asleep line2).lineCount 0 ≠ 0 ∧
      (withLine asleep line2).drainWanted 0 = false ∧ awake.store.fill = 0 ∧ awake.drainWriteInFlight = false ∧
      draining.drainWriteInFlight = true ∧
      runs .supwarnAssertion awake (fun t => t.pins.supwarn && t.mode == .warn) = true := by decide

theorem witness_FltpassFreezesHeldBanks :
    awake.pins.fltpass = false ∧ { Pins.reset with fltpass := true }.fltpass = true ∧
      ∀ b, (withRecord awake).HandshakeOf b :=
  ⟨by decide, by decide, awake_handshake (withRecord awake).faults⟩

/-- A negation of FLTPASS: the READY entry of the held bank is frozen, and so is one WAITING(BANK) of it (log 30). -/
theorem witness_FltpassFreezes_waiting :
    runs .fltpassNegation { withRecord awake with queue := [⟨readLine2, .waiting .bank⟩], pins := { Pins.reset with fltpass := true } }
      (fun t => t.queue == [⟨readLine2, .waiting .frozen⟩]) = true := by decide

theorem witness_WarmResetKeepsTheStore :
    awake.pins.resetn = false ∧ ((clearing 5).bankState 0).isClearing = true ∧
      ((inMove (.waking .off) .active .off).bankState 0).inTransition = true ∧
      runs .resetnAssertion awake (fun t => t.pins.resetn) = true ∧ awake.pressure = false ∧ awake.hasPressureBank = false ∧
      (stuck.bankState 0).isStuck = true ∧ awake.banks[0].lost = true ∧ contested.drainWanted 0 = true ∧
      (∀ b, State.ageExpired { awake with store := awake.store.returnAllHeld } b = true → awake.ageExpired b = true) := by decide

theorem witness_WarmResetKeepsTheStore_completion :
    { reading with pending := [.resetnAssertion] }.pins.resetn = false ∧
      { reading with pending := [.resetnAssertion] }.pending.head? = some .resetnAssertion ∧
      { reading with pending := [.resetnAssertion] }.port.inFlight = some ⟨.wordRead, 1, 0, 64, 1, .entry, .start 64⟩ := by decide

theorem witness_ReportsChangeOnlyTheFrame :
    namesNoCommand [0x07] = true ∧ namesNoCommand [0x01] = false ∧ decodeFrame [0x01] ≠ none ∧
      namesNoCommand [0x02] = false ∧ decodeFrame [0x02] = none ∧ 32 ≤ (32 : Byte).toNat ∧
      (31 : Byte).toNat = (31 : SlotNo).val ∧ awake.awaitRise = false ∧ awake.clear.queue = [] ∧
      (clearing 5).clear.queue.head? = some 0 ∧ reading.port.inFlight.isSome = true ∧
      (withLine awake line2).store.slots[(0 : SlotNo)] = some line2 ∧ awake.store.slots[(31 : SlotNo)] = none := by decide

theorem witness_RegionReadReturnsTheEntry : 8 ≤ (8 : Byte).toNat ∧ (7 : Byte).toNat = (7 : Fin 8).val ∧ awake.awaitRise = false := by decide

theorem witness_RegionWriteReplacesOneEntry :
    (2097151 : BitVec 24).toNat < 2097152 ∧ (2097151 : BitVec 24).toNat ≤ (2097151 : BitVec 24).toNat ∧
      2097152 ≤ (2097152 : BitVec 24).toNat ∧ (0 : BitVec 24).toNat < (1 : BitVec 24).toNat ∧ asleep.awaitRise = false ∧
      runs (.regionWrite 0 7 0 2097151 255) { asleep with queue := [⟨writeLine2, .waiting .bank⟩] }
        (fun t => t.queue.isEmpty && t.out.responses == [⟨1, 4, .ok, []⟩]) = true := by decide

theorem witness_RegionWriteReplacesOneEntry_handshake : ∀ b, asleep.HandshakeOf b :=
  allBanks ⟨rfl, rfl, rfl⟩ ⟨rfl, rfl, rfl⟩ ⟨rfl, rfl, rfl⟩ ⟨rfl, rfl, rfl⟩ ⟨rfl, rfl, rfl⟩ ⟨rfl, rfl, rfl⟩ ⟨rfl, rfl, rfl⟩
    ⟨rfl, rfl, rfl⟩

theorem witness_RegisterReadsAndWritesAreChecked_reads :
    (0x27 : Byte).toNat = 0x20 + (7 : BankNo).val ∧ 0x28 ≤ (0x28 : Byte).toNat ∧ (0x08 : Byte).toNat < 0x28 ∧
      (0x10 : Byte).toNat = 0x10 + (0 : BankNo).val ∧ (0x17 : Byte).toNat = 0x10 + (7 : BankNo).val ∧
      (0x18 : Byte).toNat = 0x18 + (0 : BankNo).val ∧ (0x1F : Byte).toNat = 0x18 + (7 : BankNo).val ∧
      awake.awaitRise = false := by decide

theorem witness_RegisterReadsAndWritesAreChecked_writes :
    (1 ≤ (255 : BitVec 16).toNat ∧ (255 : BitVec 16).toNat ≤ 255) ∧ 256 ≤ (256 : BitVec 16).toNat ∧
      (0x08 ≤ (0x0F : Byte).toNat ∧ (0x0F : Byte).toNat ≤ 0x0F) ∧ (0x20 ≤ (0x20 : Byte).toNat ∧ (0x20 : Byte).toNat ≤ 0x27) := by
  decide

theorem witness_ConfigWriteRefitsOnlyARestingPart :
    8 < (0x1909 : BitVec 16).toNat % 256 ∧ 64 < (0x4101 : BitVec 16).toNat / 256 ∧
      (0x4008 : BitVec 16).toNat % 256 = awake.regs.banksFitted.toNat ∧ (0x4008 : BitVec 16).toNat / 256 ≤ 64 ∧
      (0x0101 : BitVec 16).toNat % 256 ≠ State.reset.regs.banksFitted.toNat ∧ 1 ≤ (0x0101 : BitVec 16).toNat / 256 ∧
      awake.bankState 0 ≠ .off ∧ (∀ b : BankNo, State.reset.bankState b = .off) ∧ State.reset.store.fill = 0 ∧
      State.reset.queue = [] ∧ State.reset.awaitRise = false ∧ awake.awaitRise = false := by decide

theorem witness_ConfigWrite_flags : State.reset.FlagsHaveLines :=
  show ∀ b : BankNo, State.reset.drainWanted b = true → State.reset.lineCount b ≠ 0 by decide

theorem witness_StoreLimitsApplyAtTheWrite :
    (33 : BitVec 16).toNat > 32 ∧ (32 : BitVec 16).toNat ≤ 32 ∧ 1024 ≤ (1024 : BitVec 16).toNat ∧ (1023 : BitVec 16).toNat < 1024 ∧
      (withLine asleep { line2 with age := 3 }).ageExpired 0 = false ∧
      { withLine asleep { line2 with age := 3 } with regs := { Registers.reset with ageLimit := 3 } }.ageExpired 0 = true ∧
      (withLine asleep line2).awaitRise = false := by decide

theorem witness_StoreLimits_pressure :
    (1 : BitVec 16).toNat ≤ (withLine asleep line2).store.fill ∧ (withLine asleep line2).hasPressureBank = false ∧
      (withLine asleep line2).store.slots[(0 : SlotNo)] = some line2 ∧
      (withLine asleep line2).FirstInAgeList (fun j => ∃ m, (withLine asleep line2).store.slots[j] = some m ∧
        ((withLine asleep line2).bankState m.bank).isStuck = false) 0 :=
  ⟨by decide, by decide, by decide, [], [], rfl, ⟨line2, by decide, by decide⟩, fun _ h => by cases h⟩

theorem witness_InterruptCausesAreShownClearedAndEnabled : 32 ≤ (32 : BitVec 16).toNat ∧ (31 : BitVec 16).toNat < 32 ∧ awake.awaitRise = false := by
  decide

theorem witness_ResetRecordCountsAssertions : awake.pins.resetn = false ∧ (1 : BitVec 16) ≠ 0 ∧
    awake.awaitRise = false := by decide

theorem witness_PolicyWritesStartAndStopTimers :
    32768 ≤ (32768 : BitVec 16).toNat ∧ (32767 : BitVec 16).toNat < 32768 ∧ 4096 ≤ (4096 : BitVec 16).toNat ∧
      (4095 : BitVec 16).toNat < 4096 ∧ awake.awaitRise = false := by decide

theorem witness_RefusedOrdersChangeOnlyTheFrame :
    8 ≤ (8 : Byte).toNat ∧ { State.reset with regs := { Registers.reset with banksFitted := 7 } }.fitted 7 = false ∧
      (7 : Byte).toNat = (7 : BankNo).val ∧
      (stuck.bankState 0).isStuck = true ∧ asleep.bankState 0 ≠ .active ∧ (withLine awake line2).lineCount 0 ≠ 0 ∧
      (awake.bankState 0).isStuck = false ∧ ((clearing 0).bankState 0).isClearing = true ∧ awake.awaitRise = false ∧
      stuck.awaitRise = false ∧ (clearing 0).awaitRise = false := by decide

theorem witness_WakeAndRetryRaiseTheBank :
    asleep.HandshakeOf 0 ∧ asleep.fitted 0 = true ∧ asleep.bankState 0 = Rest.retain.state ∧
      State.reset.bankState 0 = Rest.off.state ∧ stuck.bankState 0 = .stuck .retain ∧
      (stuck.banks[(0 : BankNo)].settled && stuck.banks[(0 : BankNo)].reported == .active) = false ∧
      awake.banks[(0 : BankNo)].idleTimer.isRunning = false ∧ asleep.awaitRise = false ∧ stuck.awaitRise = false :=
  ⟨⟨rfl, rfl, rfl⟩, by decide, by decide, by decide, by decide, by decide, by decide, by decide, by decide⟩

theorem witness_WakeAndRetry_settled :
    let k := settledAt (.stuck .retain) .active
    k.settled = true ∧ k.reported = .active ∧ (withBank State.reset 0 k).bankState 0 = .stuck .retain ∧
      { settledAt .active .active with idleTimer := .start 5 }.idleTimer.isRunning = true ∧
      (inMove (.descending .off) .off .active).bankState 0 = .descending .off ∧ (clearing 0).bankState 0 = .clearing .off := by
  decide

theorem witness_RetainAndOff_refused :
    { awake with queue := [⟨readLine2, .waiting .frozen⟩] }.entryCount 0 ≠ 0 ∧
      { awake with queue := [⟨readLine2, .waiting .frozen⟩] }.inFlightFor 0 = false ∧ contested.drainWanted 0 = true ∧
      contested.awaitRise = false := by decide

theorem witness_RetainAndOffLowerTheBank :
    awake.HandshakeOf 0 ∧ awake.inFlightFor 0 = false ∧ reading.inFlightFor 0 = true ∧ awake.entryCount 0 = 0 ∧
      awake.drainWanted 0 = false ∧ awake.lineCount 0 = 0 ∧ awake.awaitRise = false :=
  ⟨⟨rfl, rfl, rfl⟩, by decide, by decide, by decide, by decide, by decide, by decide⟩

theorem witness_DiscardGivesUpTheLines :
    (stuck.bankState 0).isStuck = true ∧ (stuck.banks[(0 : BankNo)].settled && stuck.banks[(0 : BankNo)].reported == .off) = false ∧
      (withBank State.reset 0 (settledAt (.stuck .off) .off)).queue = [] ∧
      (let k := settledAt (.stuck .off) .off; (k.settled && k.reported == .off) = true) ∧ stuck.awaitRise = false := by
  decide

theorem witness_ClearAndUnlostSettleTheContents :
    (awake.bankState 0).isClearing = false ∧ awake.lineCount 0 = 0 ∧ awake.entryCount 0 = 0 ∧ awake.bankState 0 = .active ∧
      asleep.HandshakeOf 0 ∧ asleep.bankState 0 = Rest.retain.state ∧ awake.awaitRise = false ∧ asleep.awaitRise = false :=
  ⟨by decide, by decide, by decide, by decide, ⟨rfl, rfl, rfl⟩, by decide, by decide, by decide⟩

theorem witness_FlushFlagsBanksWithLines :
    8 ≤ (8 : Byte).toNat ∧ (stuck.bankState 0).isStuck = true ∧ awake.lineCount 0 = 0 ∧
      (withLine asleep line2).lineCount 0 ≠ 0 ∧ (withLine asleep line2).fitted 0 = true ∧
      (withLine asleep line2).bankState 0 = .retain ∧ (withLine asleep line2).awaitRise = false ∧
      (withLine asleep line2).HandshakeOf 0 :=
  ⟨by decide, by decide, by decide, by decide, by decide, by decide, by decide, ⟨rfl, rfl, rfl⟩⟩

end Sys2Proof.Tests.Slice0
end

/-! What a command can do, said once: its own effect (`OwnEffect`), and what follows it (`Result`). -/

namespace Sys2Proof.Machine

/-- What a command's own effect can leave of a state, before anything that follows the event. -/
inductive OwnEffect (s : State) : State → Prop where
  | none : OwnEffect s s
  | take (r : Request) (hp : r.presentable = true) (hm : s.mayTake r = true) : OwnEffect s (s.takeRequest r)
  | complete (op : InFlight) (report : Report) (data : Vector Word 8) (h : s.port.inFlight = some op) :
      OwnEffect s ((s.endOperation op.bank).route op report data)
  | late : OwnEffect s s.lateCompletion
  | timeOut (op : InFlight) (h : s.port.inFlight = some op) : OwnEffect s (s.timeOut op)
  | settleTimeout (b : BankNo) (h : (s.bankState b).inTransition = true) : OwnEffect s (s.failBank b .settleTimeout)
  | drive (b : BankNo) (level : StatusLevel) (settled : Bool) : OwnEffect s (s.drive b level settled)
  | sample (b : BankNo) (level : StatusLevel) (settled : Bool) (hf : s.fitted b = true) :
      OwnEffect s ((s.drive b level settled).sampleLines b)
  | settleWaking (b : BankNo) (level : StatusLevel) (settled : Bool) (o : Rest) (hf : s.fitted b = true)
      (h : s.bankState b = .waking o) : OwnEffect s (((s.drive b level settled).sampleLines b).settleWaking b o)
  | settleDescending (b : BankNo) (level : StatusLevel) (settled : Bool) (o : Rest) (hf : s.fitted b = true)
      (h : s.bankState b = .descending o) : OwnEffect s (((s.drive b level settled).sampleLines b).settleDescending b o)
  | unsolicited (b : BankNo) (level : StatusLevel) (settled : Bool) (hf : s.fitted b = true) :
      OwnEffect s (((s.drive b level settled).sampleLines b).failBank b .unsolicitedChange)
  | descend (b : BankNo) (o : Rest) : OwnEffect s (s.descend b o)
  | cause (b : BankNo) (f : DrainCauses → DrainCauses) : OwnEffect s (s.addCause b f)
  | flushEvery : OwnEffect s s.flushEvery
  | warn : OwnEffect s (s.driveSupwarn true).enterWarn
  | leaveWarn : OwnEffect s (s.driveSupwarn false).leaveWarn
  | fltpass (v : Bool) : OwnEffect s (s.driveFltpass v)
  | warmReset (h : s.pins.resetn = false) : OwnEffect s (s.driveResetn true).warmReset
  | resumed (h : s.pins.resetn = true) : OwnEffect s (s.driveResetn false)
  | beginFrame : OwnEffect s s.beginFrame
  | endFrame : OwnEffect s s.endFrame
  | popMark (r : FaultRecord) : OwnEffect s { s with mgmt := some ⟨0, .done, r.bytes, true⟩ }
  | removeHead : OwnEffect s s.endFrame.removeHead
  | clearUnlogged (b : BankNo) : OwnEffect s (s.clearUnlogged b)
  | capture (r : Register) : OwnEffect s (s.captureLow r)
  | tickDiv (v : BitVec 16) (h : State.configInRange v = true) : OwnEffect s (s.setTickDiv v)
  | refit (v : BitVec 16) (h : State.configInRange v = true) (hm : s.mayRefit = true) :
      OwnEffect s ((s.setTickDiv v).refit v)
  | hwm (v : BitVec 16) (h : (decide (1 ≤ v.toNat) && decide (v.toNat ≤ 32)) = true) :
      OwnEffect s { s with regs := { s.regs with hwm := v.setWidth 6 } }
  | ageLimit (v : BitVec 16) : OwnEffect s { s with regs := { s.regs with ageLimit := v.setWidth 10 } }
  | settleLimit (v : BitVec 16) (h : (decide (1 ≤ v.toNat) && decide (v.toNat ≤ 255)) = true) :
      OwnEffect s { s with regs := { s.regs with settleLimit := v.setWidth 8 } }
  | accessLimit (v : BitVec 16) (h : (decide (1 ≤ v.toNat) && decide (v.toNat ≤ 255)) = true) :
      OwnEffect s { s with regs := { s.regs with accessLimit := v.setWidth 8 } }
  | irqStatus (lost safe clearDone : Bool) :
      OwnEffect s { s with irq := { s.irq with lost := lost, safe := safe, clearDone := clearDone } }
  | irqEnables (v : BitVec 5) : OwnEffect s { s with irq := { s.irq with enables := v } }
  | resetRecord : OwnEffect s { s with regs := { s.regs with resetCount := 0, linesAtReset := 0 } }
  | policy (b : BankNo) (f : Policy → Policy) : OwnEffect s ((s.setPolicy b f).refreshTimersOf b)
  | region (g : Fin 8) (x : Region) : OwnEffect s { s with regions := updAt s.regions g fun _ => x }
  | wake (b : BankNo) (o : Rest) (hf : s.fitted b = true)
      (h : s.bankState b = o.state ∨ s.bankState b = .stuck o) : OwnEffect s (s.wake b o)
  | pendWake (b : BankNo) : OwnEffect s (s.setBank b fun k => { k with pendingWake := true })
  | holdAwake (b : BankNo) : OwnEffect s (s.holdAwake b)
  | discard (b : BankNo) (hf : s.fitted b = true) (h : (s.bankState b).isStuck = true) : OwnEffect s (s.discardBank b)
  | clear (b : BankNo) (hf : s.fitted b = true) (h : s.bankState b = .active) (hl : s.lineCount b = 0) :
      OwnEffect s (s.enterClearing b .retain)
  | clearWake (b : BankNo) (o : Rest) (hf : s.fitted b = true) (h : s.bankState b = o.state) (hl : s.lineCount b = 0) :
      OwnEffect s ((s.setClearPending b true).wake b o)
  | unlost (b : BankNo) : OwnEffect s (s.setBank b fun k => { k with lost := false })
  | millisecond : OwnEffect s s.milliStep

/-- What a command can leave: its own effect, with or without what follows an event, and a reply where the management port
gives one; or the part after power-on reset. -/
inductive Result (s : State) : State → Prop where
  | plain {u : State} (h : OwnEffect s u) : Result s u
  | ended {u : State} (h : OwnEffect s u) (released : Bool) : Result s (u.finish s released)
  | completed {u : State} (h : OwnEffect s u) (released : Bool) : Result s (u.finishCompletion s released)
  | replied {v : State} (h : Result s v) (n : Nat) (status : MgmtStatus) (results : List Byte) :
      Result s (v.reply n status results)
  | reset : Result s (s.powerOn.sampleInputs.finish s.powerOn false)

/-- Every next state of an outcome is a result of a command. -/
def Results (s : State) (o : Host.Outcome State Fault Refusal) : Prop := ∀ t, o = .next t → Result s t

namespace Results

variable {s u : State}

theorem of_result (h : Result s u) : Results s (.next u) := by
  rintro _ ⟨⟩
  exact h

theorem unchanged : Results s (.next s) := of_result (.plain .none)

theorem plain (h : OwnEffect s u) : Results s (.next u) := of_result (.plain h)

theorem ended (h : OwnEffect s u) (released : Bool) : Results s (.next (u.finish s released)) := of_result (.ended h released)

theorem reply {n : Nat} {status : MgmtStatus} {results : List Byte} : Results s (.next (s.reply n status results)) :=
  of_result (.replied (.plain .none) n status results)

theorem onFrame {e : Host.Outcome State Fault Refusal} (h : Results s e) : Results s (s.onFrame e) := by
  intro t ht
  rcases State.onFrame_next ht with ⟨-, rfl⟩ | ⟨-, he⟩
  · exact .plain .none
  · exact h t he

theorem cond {p : Prop} [Decidable p] {a b : Host.Outcome State Fault Refusal} (ha : p → Results s a)
    (hb : ¬p → Results s b) : Results s (if p then a else b) := by
  split
  next h => exact ha h
  next h => exact hb h

end Results

/-! ## The S port and the M port -/

theorem requestTaken_results (r : Request) (s : State) : Results s (execRequestTaken r s) := by
  unfold execRequestTaken
  split
  next hp => exact .cond (fun hm => .ended (.take r hp hm) _) fun _ => .unchanged
  · rintro _ ⟨⟩

theorem completion_results (number : BitVec 8) (report : Report) (data : Vector Word 8) (s : State) :
    Results s (execCompletion number report data s) := by
  unfold execCompletion
  split
  next op h => exact .cond (fun _ => .of_result (.completed (.complete op report data h) _)) fun _ => .plain .late
  · exact .plain .late

theorem accessTimeout_results (s : State) : Results s (execAccessTimeout s) := by
  unfold execAccessTimeout
  split
  next op h => exact .ended (.timeOut op h) _
  · exact .unchanged

/-! ## The banks -/

theorem settleTimeout_results (b : BankNo) (s : State) : Results s (execSettleTimeout b s) := by
  unfold execSettleTimeout
  exact .cond (fun h => .ended (.settleTimeout b (Bool.and_eq_true_iff.mp h).1) _) fun _ => .unchanged

theorem settledChange_result (s : State) (b : BankNo) (level : StatusLevel) (settled : Bool) (hf : s.fitted b = true) :
    Result s ((s.drive b level settled).settledChange s b) := by
  unfold State.settledChange
  split
  · exact .ended (.unsolicited b level settled hf) _
  · exact .plain (.sample b level settled hf)

theorem lineChange_result (s : State) (b : BankNo) (level : StatusLevel) (settled : Bool) (hf : s.fitted b = true) :
    Result s ((s.drive b level settled).lineChange s b) := by
  have sampled : Result s ((s.drive b level settled).sampleLines b) := .plain (.sample b level settled hf)
  unfold State.lineChange
  dsimp only
  split
  next o h =>
    split
    · exact .ended (.settleWaking b level settled o hf h) _
    · exact sampled
  next o h =>
    split
    · exact .ended (.settleDescending b level settled o hf h) _
    · exact sampled
  next => exact sampled
  all_goals exact settledChange_result s b level settled hf

theorem statusLineChange_results (b : BankNo) (level : StatusLevel) (settled : Bool) (s : State) :
    Results s (execStatusLineChange b level settled s) := by
  unfold execStatusLineChange
  exact .cond (fun hf => .of_result (lineChange_result s b level settled hf)) fun _ => .plain (.drive b level settled)

theorem idleTimerExpiry_results (b : BankNo) (s : State) : Results s (execIdleTimerExpiry b s) := by
  unfold execIdleTimerExpiry
  exact .cond (fun _ => .ended (.descend b .retain) _) fun _ => .unchanged

theorem offTimerExpiry_results (b : BankNo) (s : State) : Results s (execOffTimerExpiry b s) := by
  unfold execOffTimerExpiry
  exact .cond (fun _ => .ended (.descend b .off) _) fun _ => .unchanged

theorem ageExpiry_results (b : BankNo) (s : State) : Results s (execAgeExpiry b s) := by
  unfold execAgeExpiry
  exact .cond (fun _ => .ended (.cause b _) _) fun _ => .unchanged

/-! ## The level inputs -/

theorem supwarnAssertion_results (s : State) : Results s (execSupwarnAssertion s) :=
  .cond (fun _ => .unchanged) fun _ => .ended .warn _

theorem supwarnNegation_results (s : State) : Results s (execSupwarnNegation s) :=
  .cond (fun _ => .ended .leaveWarn _) fun _ => .unchanged

theorem fltpassAssertion_results (s : State) : Results s (execFltpassAssertion s) :=
  .cond (fun _ => .unchanged) fun _ => .ended (.fltpass true) _

theorem fltpassNegation_results (s : State) : Results s (execFltpassNegation s) :=
  .cond (fun _ => .ended (.fltpass false) _) fun _ => .unchanged

theorem resetnAssertion_results (s : State) : Results s (execResetnAssertion s) :=
  .cond (fun _ => .unchanged) fun h => .ended (.warmReset (by simpa using h)) _

theorem resetnNegation_results (s : State) : Results s (execResetnNegation s) :=
  .cond (fun h => .ended (.resumed h) _) fun _ => .unchanged

/-! ## Registers -/

theorem writeInRange_result {s : State} {c : Bool} {effect : State → State} (h : c = true → Result s (effect s)) :
    Result s (s.writeInRange c effect) := by
  unfold State.writeInRange
  split
  next hc => exact .replied (h hc) ..
  · exact .replied (.plain .none) ..

theorem writeConfig_result (s : State) (v : BitVec 16) : Result s (s.writeConfig v) := by
  unfold State.writeConfig
  split
  next hv =>
    split
    · exact .replied (.plain (.tickDiv v hv)) ..
    · split
      next hm => exact .replied (.ended (.refit v hv hm) _) ..
      · exact .replied (.plain .none) ..
  · exact .replied (.plain .none) ..

theorem writeHwm_result (s : State) (v : BitVec 16) : Result s (s.writeHwm v) :=
  writeInRange_result fun h => .ended (.hwm v h) _

theorem writeAgeLimit_result (s : State) (v : BitVec 16) : Result s (s.writeAgeLimit v) :=
  writeInRange_result fun _ => .ended (.ageLimit v) _

theorem writeIrqStatus_result (s : State) (v : BitVec 16) : Result s (s.writeIrqStatus v) :=
  writeInRange_result fun _ => .plain (.irqStatus ..)

theorem writeIrqEnable_result (s : State) (v : BitVec 16) : Result s (s.writeIrqEnable v) :=
  writeInRange_result fun _ => .plain (.irqEnables _)

theorem writeResetRecord_result (s : State) (v : BitVec 16) : Result s (s.writeResetRecord v) :=
  writeInRange_result fun _ => .plain .resetRecord

theorem writePolicyA_result (s : State) (b : BankNo) (v : BitVec 16) : Result s (s.writePolicyA b v) :=
  writeInRange_result fun _ => .plain (.policy b _)

theorem writePolicyB_result (s : State) (b : BankNo) (v : BitVec 16) : Result s (s.writePolicyB b v) :=
  writeInRange_result fun _ => .plain (.policy b _)

theorem counterHighRead_results (number : Byte) (s : State) : Results s (execCounterHighRead number s) := by
  refine .onFrame ?_
  split
  · exact .reply
  next r _ => exact .of_result (.replied (.plain (.capture r)) ..)

theorem regWrite_results (number : Byte) (v : BitVec 16) (s : State) : Results s (execRegWrite number v s) := by
  refine .onFrame ?_
  split
  · exact .reply
  · exact .of_result (writeInRange_result fun h => .plain (.settleLimit v h))
  · exact .of_result (writeInRange_result fun h => .plain (.accessLimit v h))
  iterate 9 exact .reply
  · exact .of_result (writeConfig_result s v)
  · exact .of_result (writeHwm_result s v)
  · exact .of_result (writeAgeLimit_result s v)
  · exact .of_result (writeIrqStatus_result s v)
  · exact .of_result (writeIrqEnable_result s v)
  · exact .of_result (writeResetRecord_result s v)
  · exact .of_result (writePolicyA_result s _ v)
  · exact .of_result (writePolicyB_result s _ v)

/-! ## Reports and the Fault Log -/

theorem invalidCommand_results (frame : List Byte) (s : State) : Results s (execInvalidCommand frame s) := by
  refine .cond (fun _ => .onFrame .reply) fun _ => .cond (fun _ => .onFrame (.plain .beginFrame)) fun _ => ?_
  rintro _ ⟨⟩

theorem regionRead_results (entry : Byte) (s : State) : Results s (execRegionRead entry s) := by
  refine .onFrame ?_
  split <;> exact .reply

theorem regionWrite_results (entry flags : Byte) (base limit : BitVec 24) (initiators : Byte) (s : State) :
    Results s (execRegionWrite entry flags base limit initiators s) := by
  refine .onFrame ?_
  split
  next g _ =>
    refine .of_result ?_
    unfold State.writeRegion
    split
    · exact .replied (.ended (.region g _) _) ..
    · exact .replied (.plain .none) ..
  · exact .reply

theorem slotRead_results (slot : Byte) (s : State) : Results s (execSlotRead slot s) := by
  refine .onFrame ?_
  split <;> exact .reply

theorem faultPeek_results (s : State) : Results s (execFaultPeek s) := by
  refine .onFrame ?_
  split <;> exact .reply

theorem faultPop_results (s : State) : Results s (execFaultPop s) := by
  refine .onFrame ?_
  split
  · exact .reply
  next r _ _ => exact .plain (.popMark r)

theorem faultPopRemoval_results (shifted : Nat) (s : State) : Results s (execFaultPopRemoval shifted s) := by
  unfold execFaultPopRemoval
  split
  · exact .plain .endFrame
  · exact .cond (fun _ => .ended .removeHead _) fun _ => .plain .endFrame

theorem clearUnlogged_results (bank : Byte) (s : State) : Results s (execClearUnlogged bank s) := by
  refine .onFrame ?_
  split
  · exact .reply
  next b _ => exact .of_result (.replied (.ended (.clearUnlogged b) _) ..)

/-! ## Orders -/

theorem accept_result {s u : State} (h : OwnEffect s u) : Result s (s.accept u) := .replied (.ended h _) ..

theorem refusal_result (s : State) (status : MgmtStatus) : Result s (s.replyOrder status) := .replied (.plain .none) ..

theorem order_results (s : State) (bank : Byte) {action : BankNo → State}
    (h : ∀ b, s.fitted b = true → Result s (action b)) : Results s (s.onFrame (.next (s.order bank action))) := by
  refine .onFrame (.of_result ?_)
  unfold State.order
  split
  · exact refusal_result s _
  next b _ =>
    split
    next hf => exact h b hf
    · exact refusal_result s _

theorem orderWake_result (s : State) (b : BankNo) (hf : s.fitted b = true) : Result s (s.orderWake b) := by
  unfold State.orderWake
  split
  next h => exact accept_result (.wake b .off hf (.inl h))
  next h => exact accept_result (.wake b .retain hf (.inl h))
  · exact .replied (.plain (.pendWake b)) ..
  · split
    · exact accept_result (.holdAwake b)
    · exact refusal_result s _
  all_goals exact refusal_result s _

theorem orderRetain_result (s : State) (b : BankNo) : Result s (s.orderRetain b) := by
  unfold State.orderRetain
  split
  · exact refusal_result s _
  · split
    · exact refusal_result s _
    · split
      · exact refusal_result s _
      · exact accept_result (.descend b .retain)

theorem orderOff_result (s : State) (b : BankNo) : Result s (s.orderOff b) := by
  unfold State.orderOff
  split
  · split
    · exact refusal_result s _
    · exact accept_result (.descend b .off)
  · exact refusal_result s _

theorem orderRetry_result (s : State) (b : BankNo) (hf : s.fitted b = true) : Result s (s.orderRetry b) := by
  unfold State.orderRetry
  split
  next o h => exact accept_result (.wake b o hf (.inr h))
  all_goals exact refusal_result s _

theorem orderDiscard_result (s : State) (b : BankNo) (hf : s.fitted b = true) : Result s (s.orderDiscard b) := by
  unfold State.orderDiscard
  split
  next h => exact accept_result (.discard b hf h)
  · exact refusal_result s _

theorem orderClear_result (s : State) (b : BankNo) (hf : s.fitted b = true) : Result s (s.orderClear b) := by
  unfold State.orderClear
  split
  · exact refusal_result s _
  next hc =>
    have hl : s.lineCount b = 0 := by
      by_contra h
      exact hc (.inl h)
    split
    next h => exact accept_result (.clear b hf h hl)
    next h => exact accept_result (.clearWake b .off hf h hl)
    next h => exact accept_result (.clearWake b .retain hf h hl)
    all_goals exact refusal_result s _

theorem orderUnlost_result (s : State) (b : BankNo) : Result s (s.orderUnlost b) := by
  unfold State.orderUnlost
  split
  · exact refusal_result s _
  · exact .replied (.plain (.unlost b)) ..

theorem flush_results (bank : Byte) (s : State) : Results s (execFlush bank s) := by
  refine .onFrame ?_
  split
  · exact .reply
  next b _ =>
    refine .of_result ?_
    unfold State.orderFlush
    split
    · exact .replied (.plain .none) ..
    · split
      · exact .replied (.plain .none) ..
      · exact .replied (.ended (.cause b _) _) ..

/-! ## Every command, and every step -/

/-- What a command leaves is its own effect with what follows it. -/
theorem exec_result {c : Instr} {s t : State} (h : exec c s = .next t) : Result s t := by
  suffices hr : Results s (exec c s) from hr t h
  cases c with
  | requestTaken r => exact requestTaken_results r s
  | completion number report data => exact completion_results number report data s
  | accessTimeout => exact accessTimeout_results s
  | settleTimeout b => exact settleTimeout_results b s
  | statusLineChange b level settled => exact statusLineChange_results b level settled s
  | idleTimerExpiry b => exact idleTimerExpiry_results b s
  | offTimerExpiry b => exact offTimerExpiry_results b s
  | ageExpiry b => exact ageExpiry_results b s
  | supwarnAssertion => exact supwarnAssertion_results s
  | supwarnNegation => exact supwarnNegation_results s
  | fltpassAssertion => exact fltpassAssertion_results s
  | fltpassNegation => exact fltpassNegation_results s
  | resetnAssertion => exact resetnAssertion_results s
  | resetnNegation => exact resetnNegation_results s
  | powerOnReset => exact .of_result .reset
  | invalidCommand frame => exact invalidCommand_results frame s
  | status => exact .onFrame .reply
  | counterHighRead number => exact counterHighRead_results number s
  | regWrite number v => exact regWrite_results number v s
  | configWrite v => exact .onFrame (.of_result (writeConfig_result s v))
  | hwmWrite v => exact .onFrame (.of_result (writeHwm_result s v))
  | ageLimitWrite v => exact .onFrame (.of_result (writeAgeLimit_result s v))
  | irqStatusWrite v => exact .onFrame (.of_result (writeIrqStatus_result s v))
  | irqEnableWrite v => exact .onFrame (.of_result (writeIrqEnable_result s v))
  | resetRecordWrite v => exact .onFrame (.of_result (writeResetRecord_result s v))
  | bankPolicyAWrite b v => exact .onFrame (.of_result (writePolicyA_result s b v))
  | bankPolicyBWrite b v => exact .onFrame (.of_result (writePolicyB_result s b v))
  | regionRead entry => exact regionRead_results entry s
  | regionWrite entry flags base limit initiators => exact regionWrite_results entry flags base limit initiators s
  | slotRead slot => exact slotRead_results slot s
  | wakeOrder bank => exact order_results s bank fun b hf => orderWake_result s b hf
  | retainOrder bank => exact order_results s bank fun b _ => orderRetain_result s b
  | offOrder bank => exact order_results s bank fun b _ => orderOff_result s b
  | retryOrder bank => exact order_results s bank fun b hf => orderRetry_result s b hf
  | discardOrder bank => exact order_results s bank fun b hf => orderDiscard_result s b hf
  | clearOrder bank => exact order_results s bank fun b hf => orderClear_result s b hf
  | unlostOrder bank => exact order_results s bank fun b _ => orderUnlost_result s b
  | flush bank => exact flush_results bank s
  | flushAll => exact .onFrame (.of_result (.replied (.ended .flushEvery _) ..))
  | faultPeek => exact faultPeek_results s
  | faultPop => exact faultPop_results s
  | faultPopRemoval shifted => exact faultPopRemoval_results shifted s
  | clearUnlogged bank => exact clearUnlogged_results bank s
  | millisecondCounterStep => exact .plain .millisecond

/-- A step is a command carried out on the state with some queue of waiting commands, or one CLK cycle. -/
theorem step_result {s t : State} (h : step s = .next t) :
    (∃ rest, Result { s with pending := rest } t) ∨ t = s.clockCycle := by
  unfold step at h
  split at h
  · unfold idle at h
    split at h
    · exact .inl ⟨s.pending, exec_result h⟩
    · injection h with h
      exact .inr h.symm
  next rest _ => exact .inl ⟨rest, exec_result h⟩

end Sys2Proof.Machine

/-! The Line Store stays sound: one line per address, the age list exact, no line empty (R1, R4, R5). -/

namespace Sys2Proof.Machine

/-- Laws R1, R4 and R5 of a store: `StoreOrdered` and `LinesNotEmpty` in one. -/
structure LineStore.Sound (st : LineStore) : Prop where
  nodup : st.ageList.Nodup
  listed : ∀ i : SlotNo, i ∈ st.ageList ↔ (st.slots[i]).isSome = true
  apart : ∀ (i j : SlotNo) (l m : Line), st.slots[i] = some l → st.slots[j] = some m → l.addr = m.addr → i = j
  valid : ∀ (i : SlotNo) (l : Line), st.slots[i] = some l → ∃ n : Fin 32, (l.bytes[n]).isSome = true

theorem storeSound_iff (s : State) : s.StoreOrdered ∧ s.LinesNotEmpty ↔ s.store.Sound :=
  ⟨fun ⟨⟨h1, h2, h3⟩, h4⟩ => ⟨h1, h2, h3, h4⟩, fun h => ⟨⟨h.nodup, h.listed, h.apart⟩, h.valid⟩⟩

/-- A change of a line that keeps its address and its valid bytes. -/
def KeepsLine (f : Line → Line) : Prop :=
  ∀ l, (f l).addr = l.addr ∧ ∀ n : Fin 32, (l.bytes[n]).isSome = true → ((f l).bytes[n]).isSome = true

theorem mapAll_self {α β : Type} {n : Nat} (v : Vector α n) (f : α → β) (i : Fin n) : (mapAll v f)[i] = f v[i] := by simp

namespace LineStore

/-- A store whose lines are lines of a sound store, in their slots and with no byte lost, and whose age list is exact. -/
theorem Sound.of_lines {st st' : LineStore} (h : st.Sound) (hn : st'.ageList.Nodup)
    (hm : ∀ i : SlotNo, i ∈ st'.ageList ↔ (st'.slots[i]).isSome = true)
    (hk : ∀ (i : SlotNo) (l' : Line), st'.slots[i] = some l' → ∃ l, st.slots[i] = some l ∧ l'.addr = l.addr ∧
      ∀ n : Fin 32, (l.bytes[n]).isSome = true → (l'.bytes[n]).isSome = true) : st'.Sound where
  nodup := hn
  listed := hm
  apart := fun i j l m hi hj e => by
    obtain ⟨l0, hl0, el, -⟩ := hk i l hi
    obtain ⟨m0, hm0, em, -⟩ := hk j m hj
    exact h.apart i j l0 m0 hl0 hm0 (by rw [← el, ← em, e])
  valid := fun i l hi => by
    obtain ⟨l0, hl0, -, hb⟩ := hk i l hi
    obtain ⟨n, hn⟩ := h.valid i l0 hl0
    exact ⟨n, hb n hn⟩

/-- A change of the lines in their slots keeps a store sound. -/
theorem Sound.of_map {st st' : LineStore} (h : st.Sound) (hn : st'.ageList.Nodup)
    (hl : ∀ i, i ∈ st'.ageList ↔ i ∈ st.ageList) (f : SlotNo → Line → Line) (hf : ∀ i, KeepsLine (f i))
    (hs : ∀ i : SlotNo, st'.slots[i] = (st.slots[i]).map (f i)) : st'.Sound := by
  refine h.of_lines hn (fun i => ?_) fun i l' hi => ?_
  · rw [hl, h.listed, hs, Option.isSome_map]
  · rw [hs] at hi
    obtain ⟨l, hl, rfl⟩ := Option.map_eq_some_iff.mp hi
    exact ⟨l, hl, hf i l⟩

theorem onLine_slot (st : LineStore) (i j : SlotNo) (f : Line → Line) :
    (st.onLine i f).slots[j] = (st.slots[j]).map (if i = j then f else id) := by
  by_cases e : i = j
  · subst e
    simp only [onLine, updAt_self, if_true]
  · simp only [onLine, updAt_ne _ _ e, if_neg e, Option.map_id, id]

theorem Sound.onLine {st : LineStore} (h : st.Sound) (i : SlotNo) {f : Line → Line} (hf : KeepsLine f) :
    (st.onLine i f).Sound := by
  refine h.of_map h.nodup (fun _ => .rfl) (fun j => if i = j then f else id) (fun j => ?_) (onLine_slot st i · f)
  split
  · exact hf
  · exact fun _ => ⟨rfl, fun _ hv => hv⟩

theorem Sound.merge {st : LineStore} (h : st.Sound) (i : SlotNo) (r : Request) : (st.merge i r).Sound :=
  let ⟨h1, h2, h3, h4⟩ := h.onLine i fun l => ⟨(mergedLine_kept r l).addr, (mergedLine_kept r l).valid⟩
  ⟨h1, h2, h3, h4⟩

theorem Sound.startDrain {st : LineStore} (h : st.Sound) (i : SlotNo) : (st.startDrain i).Sound :=
  h.onLine i fun _ => ⟨rfl, fun _ hv => hv⟩

theorem Sound.returnHeld {st : LineStore} (h : st.Sound) (i : SlotNo) : (st.returnHeld i).Sound :=
  h.onLine i fun _ => ⟨rfl, fun _ hv => hv⟩

theorem ageAll_ageList (st : LineStore) : st.ageAll.ageList = st.ageList := by simp only [ageAll]

theorem ageAll_slot (st : LineStore) (i : SlotNo) : st.ageAll.slots[i] = (st.slots[i]).map agedLine := by
  simp only [ageAll, mapAll_self]

theorem Sound.ageAll {st : LineStore} (h : st.Sound) : st.ageAll.Sound :=
  h.of_map (by rw [ageAll_ageList]; exact h.nodup) (fun _ => by rw [ageAll_ageList]) (fun _ => agedLine)
    (fun _ l => ⟨State.agedLine_addr l, fun n hv => by rwa [State.agedLine_bytes]⟩) (ageAll_slot st)

/-- A line returned to HELD at the assertion of RESETn (R27). -/
def heldLine (l : Line) : Line :=
  if l.state == .draining then { l with state := .held, drainContributors := 0, redirty := false } else l

theorem returnAllHeld_ageList (st : LineStore) : st.returnAllHeld.ageList = st.ageList := by simp only [returnAllHeld]

theorem returnAllHeld_slot (st : LineStore) (i : SlotNo) : st.returnAllHeld.slots[i] = (st.slots[i]).map heldLine := by
  simp only [returnAllHeld, mapAll_self]
  rfl

theorem heldLine_keeps : KeepsLine heldLine := by
  intro l
  unfold heldLine
  split <;> exact ⟨rfl, fun _ hv => hv⟩

theorem Sound.returnAllHeld {st : LineStore} (h : st.Sound) : st.returnAllHeld.Sound :=
  h.of_map (by rw [returnAllHeld_ageList]; exact h.nodup) (fun _ => by rw [returnAllHeld_ageList]) (fun _ => heldLine)
    (fun _ => heldLine_keeps) (returnAllHeld_slot st)

/-- A renewal moves the slot to the end of the age list; it keeps the list exact because the slot is occupied (R13). -/
theorem Sound.renew {st : LineStore} (h : st.Sound) (i : SlotNo) (now : BitVec 16) (hi : (st.slots[i]).isSome = true) :
    (st.renew i now).Sound := by
  have hm : ∀ j, j ∈ st.ageList.erase i ++ [i] ↔ j ∈ st.ageList := by
    intro j
    rw [List.mem_append, List.mem_singleton, h.nodup.mem_erase_iff]
    by_cases e : j = i
    · simp [e, (h.listed i).2 hi]
    · simp [e]
  have hn : (st.ageList.erase i ++ [i]).Nodup :=
    List.Nodup.append (h.nodup.erase i) (List.nodup_singleton i) (by simp [h.nodup.mem_erase_iff])
  exact h.of_map hn hm _ (fun j => by split <;> exact fun _ => ⟨rfl, fun _ hv => hv⟩) (onLine_slot st i · _)

theorem Sound.free {st : LineStore} (h : st.Sound) (i : SlotNo) : (st.free i).Sound := by
  have hs : ∀ j : SlotNo, (st.free i).slots[j] = if i = j then none else st.slots[j] := by
    intro j
    by_cases e : i = j
    · subst e
      simp [LineStore.free]
    · simp only [LineStore.free, updAt_ne _ _ e, if_neg e]
  refine h.of_lines (h.nodup.erase i) (fun j => ?_) fun j l hj => ?_
  · rw [hs]
    show j ∈ st.ageList.erase i ↔ _
    rw [h.nodup.mem_erase_iff, h.listed]
    by_cases e : i = j
    · simp [e]
    · simp [e, Ne.symm e]
  · rw [hs] at hj
    split at hj
    · cases hj
    · exact ⟨l, hj, rfl, fun _ hv => hv⟩

theorem discard_slot (st : LineStore) (b : BankNo) (i : SlotNo) :
    (st.discard b).slots[i] = if slotOfBank b st.slots[i] then none else st.slots[i] := by
  simp only [discard, mapAll_self]

theorem Sound.discard {st : LineStore} (h : st.Sound) (b : BankNo) : (st.discard b).Sound := by
  refine h.of_lines (h.nodup.filter _) (fun i => ?_) fun i l hi => ?_
  · rw [discard_slot]
    show i ∈ st.ageList.filter _ ↔ _
    rw [List.mem_filter, h.listed]
    cases slotOfBank b st.slots[i] <;> simp
  · rw [discard_slot] at hi
    split at hi
    · cases hi
    · exact ⟨l, hi, rfl, fun _ hv => hv⟩

end LineStore

/-! ## Allocation leaves a byte valid (R1, R7, R33) -/

/-- A WRITE with an enabled byte that does not cross its line's boundary writes some byte of the line. -/
theorem exists_writtenByte {r : Request} (hw : r.isWrite = true) (hz : r.isZeroEnable = false)
    (hb : r.offset + r.count ≤ 8) : ∃ n : Fin 32, (writtenByte r n.val).isSome = true := by
  obtain ⟨i, hi, j, hj⟩ : ∃ (i : Nat) (h : i < r.words.length) (j : Fin 4), r.words[i].enables.getLsbD j.val = true := by
    simp only [Request.isZeroEnable, hw, Bool.true_and, List.all_eq_false, beq_iff_eq] at hz
    obtain ⟨w, hmem, hne⟩ := hz
    obtain ⟨i, hi, rfl⟩ := List.getElem_of_mem hmem
    refine ⟨i, hi, ?_⟩
    by_contra hno
    refine hne (BitVec.eq_of_getLsbD_eq fun k hk => ?_)
    have := fun h => hno ⟨⟨k, hk⟩, h⟩
    simpa using this
  have hc : r.words.length = r.count := by
    unfold Request.words Request.count
    unfold Request.isWrite at hw
    cases h : r.access with
    | read c => rw [h] at hw; cases hw
    | write ws => rfl
  have hn : 4 * (r.offset + i) + j.val < 32 := by have := j.isLt; omega
  have hd : (4 * (r.offset + i) + j.val) / 4 = r.offset + i := by have := j.isLt; omega
  have hr : (4 * (r.offset + i) + j.val) % 4 = j.val := by have := j.isLt; omega
  refine ⟨⟨4 * (r.offset + i) + j.val, hn⟩, ?_⟩
  simp [writtenByte, Request.wordAt?, hd, hr, List.getElem?_eq_getElem hi, hj]

theorem noDecodeFault_fits {s : State} {r : Request} (h : s.decodeFault r = false) : r.offset + r.count ≤ 8 := by
  simp only [State.decodeFault, Bool.or_eq_false_iff, decide_eq_false_iff_not, Nat.not_lt] at h
  exact h.1.2

theorem sound_allocate {s : State} {r : Request} {i : SlotNo} (now : BitVec 16) (h : s.store.Sound)
    (hj : Justified s r (.allocated i)) : (s.store.allocate i r now).Sound := by
  obtain ⟨hl, hi, -, hd, hz, hw, -, -⟩ := hj
  have hni : i ∉ s.store.ageList := fun hm => by
    have := (h.listed i).1 hm
    rw [hi] at this
    cases this
  have other : ∀ j : SlotNo, i ≠ j → (s.store.allocate i r now).slots[j] = s.store.slots[j] := fun j e => updAt_ne _ _ e
  have fresh : ∀ l, (s.store.allocate i r now).slots[i] = some l → l.addr = r.line ∧ l.bytes = mergeBytes r noBytes := by
    intro l hl
    simp only [LineStore.allocate, updAt_self, Option.some.injEq] at hl
    subst hl
    exact ⟨rfl, rfl⟩
  have absent : ∀ (j : SlotNo) (l : Line), s.store.slots[j] = some l → l.addr ≠ r.line := State.lookup_none hl
  refine ⟨?_, fun j => ?_, fun j k l m hj hk e => ?_, fun j l hj => ?_⟩
  · exact List.Nodup.append h.nodup (List.nodup_singleton i) (by simpa using hni)
  · show j ∈ s.store.ageList ++ [i] ↔ _
    rw [List.mem_append, List.mem_singleton]
    by_cases e : i = j
    · subst e
      simp [LineStore.allocate]
    · rw [other j e, h.listed]
      simp [Ne.symm e]
  · by_cases ej : i = j <;> by_cases ek : i = k
    · exact ej.symm.trans ek
    · subst ej
      rw [other k ek] at hk
      exact absurd (e.symm.trans (fresh l hj).1) (absent k m hk)
    · subst ek
      rw [other j ej] at hj
      exact absurd (e.trans (fresh m hk).1) (absent j l hj)
    · rw [other j ej] at hj
      rw [other k ek] at hk
      exact h.apart j k l m hj hk e
  · by_cases e : i = j
    · subst e
      obtain ⟨n, hn⟩ := exists_writtenByte hw hz (noDecodeFault_fits hd)
      refine ⟨n, ?_⟩
      rw [(fresh l hj).2]
      simp [mergeBytes, hn]
    · rw [other j e] at hj
      exact h.valid j l hj

/-! ## What follows an event -/

theorem grantEntry_store (s : State) (k : Nat) : (s.grantEntry k).store = s.store := by
  unfold State.grantEntry
  split
  · rfl
  · dsimp only
    split <;> rfl

theorem grantDrain_store {s : State} {i : SlotNo} (cls : DrainClass) :
    (s.grantDrain i cls).store = s.store ∨ (s.grantDrain i cls).store = s.store.startDrain i := by
  unfold State.grantDrain
  split
  · exact .inl rfl
  · cases cls <;> exact .inr rfl

theorem endStep_sound {s t : State} (h : EndStep s t) (hs : s.store.Sound) : t.store.Sound := by
  cases h with
  | serve => exact ⟨hs.nodup, hs.listed, hs.apart, hs.valid⟩
  | merge i r hj => exact hs.merge i r
  | allocate i r hj => exact sound_allocate _ hs hj
  | wake b o hf h => rwa [State.wake_store]
  | grantEntry k hr hf h => rwa [grantEntry_store]
  | grantDrain i cls hr hf h =>
    rcases grantDrain_store cls with e | e <;> rw [e]
    · exact hs
    · exact hs.startDrain i
  | _ => exact hs

theorem endSteps_sound {s t : State} (h : EndSteps s t) (hs : s.store.Sound) : t.store.Sound := by
  induction h with
  | refl => exact hs
  | tail _ hstep ih => exact endStep_sound hstep ih

/-! ## A command's own effect -/

theorem firstEvaluation_sound (s : State) (r : Request) (hs : s.store.Sound) : (s.firstEvaluation r).store.Sound := by
  have hj := s.judge_justified r
  unfold State.firstEvaluation
  dsimp only
  split
  · exact endSteps_sound (State.perform_steps (s.appendEntry r _) r _ hj) hs
  · exact endSteps_sound (State.perform_steps s r _ hj) hs

theorem takeRequest_sound (s : State) (r : Request) (hs : s.store.Sound) : (s.takeRequest r).store.Sound := by
  unfold State.takeRequest
  split
  · exact firstEvaluation_sound s r hs
  · exact hs

theorem routeWord_store (s : State) (report : Report) (data : Vector Word 8) : (s.routeWord report data).store = s.store := by
  unfold State.routeWord
  split
  · rfl
  · split
    · rfl
    · split <;> rfl

theorem advanceClear_store (s : State) (b : BankNo) : (s.advanceClear b).store = s.store := by
  unfold State.advanceClear
  split <;> rfl

theorem routeZero_store (s : State) (report : Report) : (s.routeZero report).store = s.store := by
  unfold State.routeZero
  split
  · split
    · rfl
    · rw [advanceClear_store]
      cases report with
      | ok => rfl
      | error => exact State.handFault_store s _
  · rfl

theorem routeLine_sound (s : State) (i : SlotNo) (report : Report) (hs : s.store.Sound) :
    (s.routeLine i report).store.Sound := by
  unfold State.routeLine
  split
  · exact hs
  next l hl =>
    split
    · exact hs
    · rw [State.drained, State.afterFreeing_store]
      obtain ⟨h1, h2, h3, h4⟩ := hs.free i
      exact ⟨h1, h2, h3, h4⟩
    · exact hs.renew i _ (by rw [hl]; rfl)
    · rw [State.drainFailed, State.afterFreeing_store]
      simpa using hs.free i

theorem route_sound (s : State) (op : InFlight) (report : Report) (data : Vector Word 8) (hs : s.store.Sound) :
    (s.route op report data).store.Sound := by
  unfold State.route
  split
  · rwa [routeWord_store]
  · exact routeLine_sound s _ report hs
  · rwa [routeZero_store]

theorem timeOut_sound (s : State) (op : InFlight) (hs : s.store.Sound) : (s.timeOut op).store.Sound := by
  rw [State.timeOut, State.handFault_store, State.makeStuck_store]
  unfold State.tellTimeout
  split
  · exact hs
  · split
    · exact hs.returnHeld _
    · exact hs
  · exact hs

/-- A fold of operations that leave a value alone. -/
theorem foldl_keeps {α β : Type} {f : State → α → State} (g : State → β) (hf : ∀ s a, g (f s a) = g s) (l : List α)
    (s : State) : g (l.foldl f s) = g s := by
  induction l generalizing s with
  | nil => rfl
  | cons a l ih => exact (ih _).trans (hf s a)

theorem enterWarn_store (s : State) : s.enterWarn.store = s.store :=
  foldl_keeps State.store (fun _ _ => by simp) _ _

theorem flushEvery_store (s : State) : s.flushEvery.store = s.store :=
  foldl_keeps State.store (fun t b => by split <;> simp [State.flushBank]) _ _

theorem refit_store (s : State) (v : BitVec 16) : (s.refit v).store = s.store :=
  foldl_keeps State.store (fun t b => by unfold State.fitBank; split <;> simp) _ _

theorem leaveWarn_store (s : State) : s.leaveWarn.store = s.store := by
  unfold State.leaveWarn
  split <;> rfl

theorem removeHead_store (s : State) : s.removeHead.store = s.store := by
  unfold State.removeHead
  split
  · rfl
  · exact State.judgeHold_store _ _

theorem captureLow_store (s : State) (r : Register) : (s.captureLow r).store = s.store := by cases r <;> rfl

theorem milliStep_store (s : State) : s.milliStep.store = s.store.ageAll := by
  unfold State.milliStep
  dsimp only
  split <;> rfl

theorem ownEffect_sound {s u : State} (h : OwnEffect s u) (hs : s.store.Sound) : u.store.Sound := by
  cases h with
  | take r hp hm => exact takeRequest_sound s r hs
  | complete op report data h => exact route_sound _ op report data hs
  | timeOut op h => exact timeOut_sound s op hs
  | settleTimeout b h => rwa [State.failBank_store]
  | settleWaking b level settled o hf h => rwa [State.settleWaking_store]
  | settleDescending b level settled o hf h => rwa [State.settleDescending_store]
  | unsolicited b level settled hf => rwa [State.failBank_store]
  | descend b o => rwa [State.descend_store]
  | cause b f => rwa [State.addCause_store]
  | flushEvery => rwa [flushEvery_store]
  | warn => rwa [enterWarn_store]
  | leaveWarn => rwa [leaveWarn_store]
  | warmReset h => exact hs.returnAllHeld
  | removeHead => rwa [removeHead_store]
  | clearUnlogged b => rwa [State.clearUnlogged, State.judgeHold_store]
  | capture r => rwa [captureLow_store]
  | refit v h hm => rwa [refit_store]
  | wake b o hf h => rwa [State.wake_store]
  | discard b hf h =>
    simp only [State.discardBank, State.descend_store, State.setBank_store, State.handFault_store,
      State.afterFreeing_store]
    exact hs.discard b
  | clearWake b o hf h hl => rwa [State.wake_store]
  | millisecond => rw [milliStep_store]; exact hs.ageAll
  | _ => exact hs

theorem reset_sound : LineStore.reset.Sound where
  nodup := List.nodup_nil
  listed := fun i => by simp [LineStore.reset]
  apart := fun i j l m h => by simp [LineStore.reset] at h
  valid := fun i l h => by simp [LineStore.reset] at h

theorem sampleInputs_store (s : State) : s.sampleInputs.store = s.store := by
  have h : ((List.finRange 8).foldl State.sampleAtRest s).store = s.store := foldl_keeps State.store (by simp) _ _
  unfold State.sampleInputs
  dsimp only
  split
  · rw [enterWarn_store, h]
  · exact h

theorem result_sound {s t : State} (h : Result s t) (hs : s.store.Sound) : t.store.Sound := by
  induction h with
  | plain h => exact ownEffect_sound h hs
  | ended h released => exact endSteps_sound (State.finish_steps _ _ _) (ownEffect_sound h hs)
  | completed h released => exact endSteps_sound (State.finishCompletion_steps _ _ _) (ownEffect_sound h hs)
  | replied h n status results ih => exact ih
  | reset =>
    refine endSteps_sound (State.finish_steps _ _ _) ?_
    rw [sampleInputs_store]
    exact reset_sound

theorem clockCycle_sound {s : State} (hs : s.store.Sound) : s.clockCycle.store.Sound := by
  have ha : ∀ u : State, u.tickAccess.store = u.store := fun u => by unfold State.tickAccess; split <;> rfl
  have hb : ∀ u : State, u.tickSettle.store = u.store := fun u => by unfold State.tickSettle; split <;> rfl
  have hc : ∀ u : State, u.tickIdle.store = u.store := fun u => by unfold State.tickIdle; split <;> rfl
  have hm : ∀ u : State, u.store.Sound → u.tickMilli.store.Sound := fun u hu => by
    unfold State.tickMilli
    split
    · exact hu
    · rw [milliStep_store]
      exact hu.ageAll
  unfold State.clockCycle
  split
  · exact hs
  · refine hm _ ?_
    rw [hc, hb, ha]
    exact hs

/-- Settles O12: every small step of an event's end and every command's own effect keeps the store sound, and so do the
millisecond counter's steps of a CLK cycle. -/
theorem stepKeepsTheStoreOrdered : Obligations.StepKeepsTheStoreOrdered := by
  intro s t hs h
  rw [storeSound_iff] at hs ⊢
  rcases step_result h with ⟨rest, hr⟩ | rfl
  · exact result_sound hr hs
  · exact clockCycle_sound hs

end Sys2Proof.Machine

/-! The state after power-on reset has every invariant. -/

namespace Sys2Proof.Machine

namespace State

theorem reset_bank (b : BankNo) : State.reset.banks[b] = BankRecord.reset := by simp [State.reset]

theorem reset_cause (b : BankNo) : State.reset.causes[b] = DrainCauses.none := by simp [State.reset]

theorem reset_hold (b : BankNo) : State.reset.faults.hold[b] = false := by simp [State.reset, FaultLog.reset]

theorem reset_unlogged (b : BankNo) : State.reset.faults.unlogged[b] = false := by
  simp [State.reset, FaultLog.reset]

theorem reset_slot (i : SlotNo) : State.reset.store.slots[i] = none := by simp [State.reset, LineStore.reset]

@[simp] theorem reset_queue : State.reset.queue = [] := rfl

@[simp] theorem reset_records : State.reset.faults.records = [] := rfl

@[simp] theorem reset_bankState (b : BankNo) : State.reset.bankState b = .off := by rw [bankState, reset_bank]; rfl

end State

/-- Settles O4: each block of `State.reset` is at its power-on value, of which each invariant is a short calculation. -/
theorem resetHoldsEveryInvariant : Obligations.ResetHoldsEveryInvariant := by
  have noLines : ∀ b, State.reset.lineCount b = 0 := fun b =>
    (LineStore.lineCount_eq_zero_iff _ b).2 fun i => by rw [State.reset_slot]; rfl
  have noCauses : ∀ b, State.reset.drainWanted b = false := fun b => by rw [State.drainWanted, State.reset_cause]; rfl
  have store := (storeSound_iff State.reset).2 reset_sound
  refine ⟨?log, ?holds, ?overflow, ?queue, ?order, ?issued, store.1, store.2, ?drain, ?flags, ?pressure, ?clear, ?regs,
    ?mode, ?ready, ?timers, ?work, ?sleepers, ?handshake⟩
  case log => exact ⟨by decide, fun k r h => by simp at h⟩
  case holds => exact fun b => by rw [State.reset_hold, State.reset_unlogged]; rfl
  case overflow => exact ⟨fun h => absurd rfl h, fun ⟨b, h⟩ => by rw [State.reset_unlogged] at h; cases h⟩
  case queue => exact ⟨by decide, fun i => by simp [State.unanswered]⟩
  case order => exact fun k e h => by simp at h
  case issued =>
    exact ⟨by simp, by simp [State.reset, MemoryPort.reset], fun op h => by cases h⟩
  case drain => exact fun i l h => by rw [State.reset_slot] at h; cases h
  case flags => exact fun b h => by rw [noCauses] at h; cases h
  case pressure => exact fun b c h => by rw [State.reset_cause] at h; cases h
  case clear =>
    refine ⟨List.nodup_nil, fun b => ⟨fun h => by simp [State.reset, ClearEngine.reset] at h, fun h => ?_⟩⟩
    rw [State.reset_bankState] at h
    cases h
  case regs => exact ⟨by decide, by decide, by decide, by decide, by decide⟩
  case mode => exact ⟨by decide, by decide⟩
  case ready => exact fun e h => by simp at h
  case timers =>
    exact fun b => by
      rw [State.reset_bank, State.idleConditions, State.offConditions, State.reset_bankState]
      simp [BankRecord.reset, Timer.isRunning]
  case work => exact fun _ _ _ => by decide
  case sleepers => exact fun b => ⟨fun _ => noLines b, fun _ => noLines b, fun _ => noLines b⟩
  case handshake =>
    intro b
    unfold State.HandshakeOf
    rw [State.reset_bankState, State.reset_bank]
    exact ⟨rfl, rfl, rfl⟩

/-! ## The step of the millisecond counter -/

/-- A saturating count stops at its greatest value. -/
theorem satInc_eq {w : Nat} (c : BitVec w) : satInc c = if c = BitVec.allOnes w then BitVec.allOnes w else c + 1 := by
  unfold satInc
  split
  next h => exact h
  next => rfl

/-- A saturating count of 16 bits as a number. -/
theorem toNat_satInc (c : BitVec 16) : (satInc c).toNat = min (c.toNat + 1) 65535 := by
  have hlt := c.isLt
  unfold satInc
  split
  next h => subst h; decide
  next h =>
    have hne : c.toNat ≠ 65535 := fun e => h (BitVec.eq_of_toNat_eq (by simpa using e))
    rw [BitVec.toNat_add, show (1 : BitVec 16).toNat = 1 from rfl]
    omega

/-- The age of a line whose count runs, after some steps (R6). -/
theorem age_iterate (l : Line) (hr : l.ageRuns = true) (steps : Nat) :
    (LineStore.agedLine^[steps] l).age.toNat = min (l.age.toNat + steps) 65535 := by
  induction steps generalizing l with
  | zero => have := l.age.isLt; simp only [Function.iterate_zero, id]; omega
  | succ n ih =>
    rw [Function.iterate_succ_apply, ih _ (State.agedLine_ageRuns l), State.agedLine_age, if_pos hr, toNat_satInc]
    omega

/-- A fresh line's first step begins the count, and each later step raises the age (R197). -/
theorem age_iterate_fresh (l : Line) (steps : Nat) :
    (LineStore.agedLine^[steps + 1] { l with age := 0, ageRuns := false }).age.toNat = min steps 65535 := by
  rw [Function.iterate_succ_apply, age_iterate _ (State.agedLine_ageRuns _), State.agedLine_age]
  simp

/-- Settles O3, by the two cases of the 10 millisecond counter. -/
theorem millisecondStepAgesEveryLine : Obligations.MillisecondStepAgesEveryLine := by
  intro s
  have slots : ∀ i : SlotNo, s.milliStep.store.slots[i] = (s.store.slots[i]).map fun l =>
      if l.ageRuns then { l with age := if l.age = 65535 then 65535 else l.age + 1 } else { l with ageRuns := true } := by
    intro i
    rw [milliStep_store, LineStore.ageAll_slot]
    congr 1
    funext l
    have hs : satInc l.age = if l.age = 65535 then 65535 else l.age + 1 := satInc_eq l.age
    rw [LineStore.agedLine, hs]
  refine ⟨s.milliStep, rfl, ?_, ?_, ?_, slots, age_iterate_fresh, fun b => ?_⟩
  · unfold State.milliStep
    dsimp only
    split <;> rfl
  · unfold State.milliStep
    dsimp only
    split <;> rfl
  · rw [milliStep_store]
    rfl
  · unfold State.milliStep
    dsimp only
    split
    · rfl
    · simp [State.tenMilliStep, State.countBanks]

/-! ## Byte lanes (R3) -/

/-- A word made of four lanes has those lanes. -/
theorem wordOfLanes_lane (b : Nat → Byte) (j : Fin 4) :
    (wordOfLanes (b 0) (b 1) (b 2) (b 3)).extractLsb' (8 * j) 8 = b j := by
  apply BitVec.eq_of_getLsbD_eq
  intro k hk
  match j with
  | 0 | 1 | 2 | 3 =>
    grind [wordOfLanes]

/-- Byte `n` of a merge is the written byte, or the byte that stood there (R8). -/
theorem byteOf_mergeBytes (r : Request) (old : Vector (Option Byte) 32) (n : Nat) (hn : n < 32) :
    byteOf (mergeBytes r old) n = (writtenByte r n).or (byteOf old n) := by
  simp [byteOf, mergeBytes, hn]

/-- A request has at most as many data words as its count. -/
theorem words_length_le (r : Request) : r.words.length ≤ r.count := by
  unfold Request.words Request.count
  split <;> simp

theorem wordAt_inside (r : Request) (i j : Nat) (hj : j < 4) : r.wordAt? (4 * (r.offset + i) + j) = r.words[i]? := by
  have hd : (4 * (r.offset + i) + j) / 4 = r.offset + i := by omega
  simp [Request.wordAt?, hd]

theorem wordAt_outside (r : Request) (n : Nat) (h : n / 4 < r.offset ∨ r.offset + r.count ≤ n / 4) :
    r.wordAt? n = none := by
  have := words_length_le r
  unfold Request.wordAt?
  split
  · exact List.getElem?_eq_none (by omega)
  · rfl

/-- Settles O29: a merge by what is written at a byte, a serve and an overlay by the lanes of the word they make. -/
theorem bytesStandAtTheirAddress : Obligations.BytesStandAtTheirAddress := by
  intro r old data i j hfit hi
  have ho : r.address.toNat % 32 / 4 = r.offset := rfl
  rw [ho] at hfit ⊢
  refine ⟨fun w hw => ?_, ?_, ?_, fun n hn => ?_⟩
  · have hlt : 4 * (r.offset + i.val) + j.val < 32 := by omega
    have hm : (4 * (r.offset + i.val) + j.val) % 4 = j.val := by omega
    rw [byteOf_mergeBytes r old _ hlt]
    simp only [writtenByte, wordAt_inside r i j j.isLt, hw, hm]
    split <;> rfl
  · exact wordOfLanes_lane (fun j => (byteOf old (4 * (r.offset + i) + j)).getD 0) j
  · have hd : (data[i.val]?).getD 0 = data[i] := by simp
    rw [overlaidWord, hd]
    exact wordOfLanes_lane (fun j => (byteOf old (4 * (r.offset + i) + j)).getD (lane data[i] j)) j
  · rw [byteOf_mergeBytes r old n n.isLt]
    simp [writtenByte, wordAt_outside r n hn]

end Sys2Proof.Machine

/-! The decision of the Request Handler, check by check (Table 2-6). -/

namespace Sys2Proof.Machine

/-- The first number that meets a condition meets it, and no lower one does. -/
theorem find_finRange_some {n : Nat} {p : Fin n → Bool} {i : Fin n} :
    (List.finRange n).find? p = some i ↔ p i = true ∧ ∀ j < i, p j = false := by
  rw [← Fin.find?_eq_find?_finRange, Fin.find?_eq_some_iff]

theorem slotHolds_iff {a : LineAddr} {o : Option Line} : slotHolds a o = true ↔ ∃ l, o = some l ∧ l.addr = a := by
  cases o <;> simp [slotHolds]

theorem not_slotHolds_iff {a : LineAddr} {o : Option Line} : slotHolds a o = false ↔ ∀ l, o = some l → l.addr ≠ a := by
  cases o <;> simp [slotHolds]

/-- A line is looked up in the lowest slot that holds it (R4). -/
theorem lookup_eq_some_iff (st : LineStore) (a : LineAddr) (i : SlotNo) : st.lookup a = some i ↔
    (∃ l, st.slots[i] = some l ∧ l.addr = a) ∧ ∀ j : SlotNo, j < i → ∀ l, st.slots[j] = some l → l.addr ≠ a := by
  simp only [LineStore.lookup, find_finRange_some, slotHolds_iff, not_slotHolds_iff]

theorem lookup_eq_none_iff (st : LineStore) (a : LineAddr) :
    st.lookup a = none ↔ ∀ (j : SlotNo) (l : Line), st.slots[j] = some l → l.addr ≠ a := by
  simp [LineStore.lookup, List.find?_eq_none, ← not_slotHolds_iff]

theorem bytesOfLine_eq {st : LineStore} {a : LineAddr} {i : SlotNo} {l : Line} (h : st.lookup a = some i)
    (hl : st.slots[i] = some l) : st.bytesOfLine a = l.bytes := by
  simp only [LineStore.bytesOfLine, h, hl]

/-- The lowest FREE slot (R7). -/
theorem lowestFree_eq_some_iff (st : LineStore) (i : SlotNo) : st.lowestFree = some i ↔
    (st.slots[i]).isNone = true ∧ ∀ j : SlotNo, j < i → (st.slots[j]).isSome = true := by
  simp only [LineStore.lowestFree, find_finRange_some, Option.isNone_eq_false_iff]

theorem lowestFree_eq_none (st : LineStore) (h : ∀ j : SlotNo, (st.slots[j]).isSome = true) : st.lowestFree = none := by
  rw [LineStore.lowestFree, List.find?_eq_none]
  intro j _
  simpa [Option.isSome_iff_ne_none] using h j

/-- A line covers a request exactly when every byte of every requested word is valid (R17). -/
theorem covers_iff (r : Request) (bytes : Vector (Option Byte) 32) (hfit : r.offset + r.count ≤ 8) :
    covers bytes r = true ↔ ∀ i < r.count, ∀ j < 4, (byteOf bytes (4 * (r.offset + i) + j)).isSome = true := by
  have valid : ∀ n : Fin 32, byteOf bytes n.val = bytes[n] := fun n => by simp [byteOf]
  simp only [covers, List.all_eq_true, List.mem_finRange, forall_const, Bool.or_eq_true, Bool.not_eq_true',
    Request.requests, Bool.and_eq_false_iff, decide_eq_false_iff_not]
  constructor
  · intro h i hi j hj
    have hn : 4 * (r.offset + i) + j < 32 := by omega
    rcases h ⟨_, hn⟩ with h | h
    · simp only at h; omega
    · rwa [← valid] at h
  · intro h n
    by_cases hin : r.offset ≤ n.val / 4 ∧ n.val / 4 < r.offset + r.count
    · refine .inr ?_
      have hb := h (n.val / 4 - r.offset) (by omega) (n.val % 4) (by omega)
      rwa [show 4 * (r.offset + (n.val / 4 - r.offset)) + n.val % 4 = n.val by omega, valid] at hb
    · exact .inl (by omega)

namespace State

variable {s : State} {r : Request}

/-- A bank is fitted when its number is below BANKS FITTED (R72). -/
theorem decodeFault_iff : s.decodeFault r = true ↔
    r.address.toNat % 4 ≠ 0 ∨ 8 < r.offset + r.count ∨ s.regs.banksFitted.toNat ≤ r.bank.val := by
  simp [decodeFault, fitted, or_assoc]

theorem decodeFault_eq_false_iff : s.decodeFault r = false ↔
    r.address.toNat % 4 = 0 ∧ r.offset + r.count ≤ 8 ∧ r.bank.val < s.regs.banksFitted.toNat := by
  simp [decodeFault, fitted, and_assoc]

/-- A READ is served from the slot that covers it, where its bank lets it (R40). -/
theorem servingSlot_eq_some {i : SlotNo} (hw : r.isWrite = false) (hl : s.store.lookup r.line = some i)
    (hc : covers (s.store.bytesOfLine r.line) r = true)
    (hb : s.bankState r.bank = .active ∨ s.frozen r.bank = true ∨ (s.bankState r.bank).isStuck = true ∨
      ((s.bankState r.bank).isAsleep = true ∧ (s.attributes r).serve = true)) : s.servingSlot r = some i := by
  rw [servingSlot, if_pos (by simpa [hw, or_assoc] using hb), coveringSlot]
  simp only [hl, hc, if_true]

theorem servingSlot_eq_none
    (h : r.isWrite = true ∨ s.store.lookup r.line = none ∨ covers (s.store.bytesOfLine r.line) r = false ∨
      (s.bankState r.bank ≠ .active ∧ s.frozen r.bank = false ∧ (s.bankState r.bank).isStuck = false ∧
        ((s.bankState r.bank).isAsleep = false ∨ (s.attributes r).serve = false))) : s.servingSlot r = none := by
  have covering : s.store.lookup r.line = none ∨ covers (s.store.bytesOfLine r.line) r = false →
      s.coveringSlot r = none := by
    intro h
    unfold coveringSlot
    split
    next i hi => rcases h with h | h <;> simp_all
    · rfl
  unfold servingSlot
  dsimp only
  split
  next hc =>
    rcases h with h | h | h | ⟨ha, hf, hs, hz⟩
    · simp [h] at hc
    · exact covering (.inl h)
    · exact covering (.inr h)
    · rcases hz with hz | hz <;> simp [ha, hf, hs, hz] at hc
  · rfl

theorem allocatingSlot_eq_some {i : SlotNo} (h : (s.attributes r).absorb = true ∧ s.mode = .normal ∧
    (s.bankState r.bank).mayAllocate = true ∧ s.wordWriteInFlight r.line = false ∧ (s.store.slots[i]).isNone = true ∧
    (∀ j : SlotNo, j < i → (s.store.slots[j]).isSome = true)) : s.allocatingSlot r = some i := by
  obtain ⟨ha, hm, hb, hw, hfree⟩ := h
  rw [allocatingSlot, if_pos (by simp [ha, hm, hb, hw]), lowestFree_eq_some_iff]
  exact hfree

theorem allocatingSlot_eq_none (h : (s.attributes r).absorb = false ∨ s.mode ≠ .normal ∨
    (s.bankState r.bank).mayAllocate = false ∨ s.wordWriteInFlight r.line = true ∨
    (∀ j : SlotNo, (s.store.slots[j]).isSome = true)) : s.allocatingSlot r = none := by
  unfold allocatingSlot
  split
  next hc =>
    rcases h with h | h | h | h | h
    · simp [h] at hc
    · simp [h] at hc
    · simp [h] at hc
    · simp [h] at hc
    · exact lowestFree_eq_none _ h
  · rfl

/-! The decision after each check. -/

theorem judge_decodeFault (h : s.decodeFault r = true) : s.judge r = .refused .eDecode := by
  rw [judge, if_pos h]

theorem judge_zeroEnable (hd : s.decodeFault r = false) (hz : r.isZeroEnable = true) : s.judge r = .noEffect := by
  rw [judge, if_neg (by simp [hd]), if_pos hz]

theorem judge_served {i : SlotNo} (hd : s.decodeFault r = false) (hz : r.isZeroEnable = false)
    (hs : s.servingSlot r = some i) : s.judge r = .served i := by
  simp [judge, hd, hz, hs]

/-- What is left of the decision of a request that check 2 does not serve (R41 to R47). -/
theorem judge_unserved (hd : s.decodeFault r = false) (hz : r.isZeroEnable = false) (hs : s.servingSlot r = none) :
    s.judge r = if s.frozen r.bank then .held .frozen
      else if (s.bankState r.bank).isStuck then .refused .eBank
      else if r.isWrite then s.judgeWrite r else s.judgeRead r := by
  simp [judge, hd, hz, hs]

theorem judgeWrite_allocated {i : SlotNo} (hl : s.store.lookup r.line = none) (ha : s.bankState r.bank ≠ .active)
    (h : s.allocatingSlot r = some i) : s.judgeWrite r = .allocated i := by
  simp only [judgeWrite, hl, ha, if_false, h]

theorem judgeWrite_held (hl : s.store.lookup r.line = none) (ha : s.bankState r.bank ≠ .active)
    (h : s.allocatingSlot r = none) : s.judgeWrite r = .held .bank := by
  simp only [judgeWrite, hl, ha, if_false, h]

end State

/-- Settles O27, check by check. -/
theorem decisionFollowsItsTable : Obligations.DecisionFollowsItsTable := by
  intro r s
  refine ⟨lookup_eq_some_iff s.store, lookup_eq_none_iff s.store, fun i l => bytesOfLine_eq, fun hfit bytes =>
    covers_iff r bytes hfit, fun h => State.judge_decodeFault (State.decodeFault_iff.2 h), fun h => ?_⟩
  have hd : s.decodeFault r = false := State.decodeFault_eq_false_iff.2 h
  refine ⟨State.judge_zeroEnable hd, fun hz => ⟨fun i ⟨hw, hl, hc, hb⟩ => ?_, fun hs => ?_⟩⟩
  · exact State.judge_served hd hz (State.servingSlot_eq_some hw hl hc hb)
  have hj := State.judge_unserved hd hz (State.servingSlot_eq_none hs)
  refine ⟨fun hf => ?_, fun hf hst => ?_, fun hf hst hw => ?_, fun hf hst hw => ?_⟩
  · simp [hj, hf]
  · simp [hj, hf, hst]
  · simp only [hf, hst, hw, Bool.false_eq_true, if_false, if_true] at hj
    rw [hj]
    refine ⟨fun i hi => ?_, fun hl ha => ?_, fun hl ha => ?_⟩
    · simp only [State.judgeWrite, hi]
    · simp only [State.judgeWrite, hl, ha, if_true]
    · exact ⟨fun i hi => State.judgeWrite_allocated hl ha (State.allocatingSlot_eq_some hi),
        fun hn => State.judgeWrite_held hl ha (State.allocatingSlot_eq_none hn)⟩
  · simp only [hf, hst, hw, Bool.false_eq_true, if_false] at hj
    rw [hj]
    refine ⟨fun ha => ⟨fun ⟨hl, hc⟩ => ?_, fun hl => ?_⟩, fun ha => ?_⟩
    · simp only [State.judgeRead, ha, hl, hc, Bool.and_self, if_true]
    · rcases hl with hl | hl <;> simp only [State.judgeRead, ha, hl, Bool.and_false, Bool.false_and, if_true] <;> rfl
    · simp [State.judgeRead, ha]

end Sys2Proof.Machine

/-! What the management port reports: the bytes of STATUS and SLOT READ, place by place (Tables 10-7, 10-9 to 10-11). -/

namespace Sys2Proof.Machine

/-! ## Lists of bytes -/

@[simp] theorem bytesOf_length (n v : Nat) : (bytesOf n v).length = n := by simp [bytesOf]

theorem bytesOf_one (v : Nat) : bytesOf 1 v = [BitVec.ofNat 8 v] := by simp [bytesOf]

theorem bytesOf_zero (n : Nat) : bytesOf n 0 = List.replicate n 0 := by
  simp only [bytesOf, Nat.zero_div, List.map_const', List.length_range]
  rfl

/-- A part of a list that stands behind `m` places. -/
theorem slice_append {α : Type} {before part after : List α} {m n : Nat} (hm : before.length = m) (hn : part.length = n) :
    ((before ++ (part ++ after)).drop m).take n = part := by
  subst hm hn
  simp

/-- The element that stands behind `m` places. -/
theorem getElem?_append_cons {α : Type} {before after : List α} {x : α} {m : Nat} (hm : before.length = m) :
    (before ++ x :: after)[m]? = some x := by
  subst hm
  simp

/-- In a list of pieces of one length, place `j` of piece `k`. -/
theorem getElem?_flatMap_pieces {α β : Type} {f : α → List β} {n : Nat} (hf : ∀ a, (f a).length = n) (l : List α)
    (k j : Nat) (hj : j < n) : (l.flatMap f)[n * k + j]? = (l[k]?).bind fun a => (f a)[j]? := by
  induction l generalizing k with
  | nil => simp
  | cons a rest ih =>
    rw [List.flatMap_cons]
    cases k with
    | zero => rw [Nat.mul_zero, Nat.zero_add, List.getElem?_append_left (by rw [hf]; exact hj)]; rfl
    | succ k =>
      have hk : n * (k + 1) + j = n + (n * k + j) := by ring
      rw [hk, List.getElem?_append_right (by rw [hf]; omega), hf, Nat.add_sub_cancel_left, ih]
      rfl

/-! ## Flags in bytes -/

/-- Bit `k` of a value of flags is flag `k`. -/
theorem testBit_flagsValue (l : List Bool) (k : Nat) : (flagsValue l).testBit k = (l[k]?).getD false := by
  induction l generalizing k with
  | nil => simp [flagsValue]
  | cons b rest ih =>
    cases k with
    | zero => cases b <;> simp [flagsValue, Nat.add_mod]
    | succ k =>
      have hd : (b.toNat + 2 * flagsValue rest) / 2 = flagsValue rest := by have := Bool.toNat_le b; omega
      rw [flagsValue, Nat.testBit_succ, hd, ih]
      rfl

theorem flagsValue_lt (l : List Bool) : flagsValue l < 2 ^ l.length := by
  induction l with
  | nil => decide
  | cons b rest ih =>
    have := Bool.toNat_le b
    rw [flagsValue, List.length_cons, Nat.pow_succ]
    omega

theorem getLsbD_flags {n : Nat} (v : Vector Bool n) (k : Fin n) :
    (BitVec.ofNat n (flagsValue v.toList)).getLsbD k = v[k] := by
  rw [BitVec.getLsbD_ofNat, testBit_flagsValue]
  simp

/-! ## STATUS -/

/-- The first 15 result bytes of STATUS, each field in its place (Table 10-10). -/
theorem statusBytes_layout (s : State) : s.statusBytes =
    [BitVec.ofNat 8 (s.mode.code + 4 * flagsValue [s.safe, s.port.inFlight.isSome, s.pins.resetn]),
      BitVec.ofNat 8 (match s.port.inFlight with
        | some op => op.bank.val + 16 * op.kind.code
        | none => 0),
      BitVec.ofNat 8 s.store.fill, BitVec.ofNat 8 s.queue.length, BitVec.ofNat 8 s.faults.records.length,
      BitVec.ofNat 8 s.faults.overflow.toNat] ++ (bytesOf 2 s.oldestSeq.toNat ++
    ([BitVec.ofNat 8 (flagsValue s.faults.hold.toList), BitVec.ofNat 8 (flagsValue s.faults.unlogged.toList),
      BitVec.ofNat 8 (s.clear.queue.length + 16 * s.clear.incomplete.toNat + 32 * match s.clear.queue with
        | [] => 0
        | b :: _ => b.val)] ++ (bytesOf 3 s.clear.cursor.toNat ++
    ([BitVec.ofNat 8 (flagsValue [s.pins.fltpass, s.pins.supwarn])] ++
      (List.finRange 8).flatMap fun b => (s.stateBytes b).map fun v => BitVec.ofNat 8 v)))) := by
  simp only [State.statusBytes, State.partFields, List.flatMap_cons, List.flatMap_nil, bytesOf_one, List.cons_append,
    List.nil_append, List.append_assoc] <;> rfl

theorem stateBytes_length (s : State) (b : BankNo) : ((s.stateBytes b).map fun v => BitVec.ofNat 8 v).length = 5 := rfl

theorem statusBytes_length (s : State) : s.statusBytes.length = 55 := by
  simp only [statusBytes_layout, List.length_append, List.length_cons, List.length_nil, bytesOf_length,
    List.length_flatMap, stateBytes_length, List.map_const', List.length_finRange, List.sum_replicate, smul_eq_mul]

/-- State byte `j` of a bank stands in place 15 + 5b + j (Tables 10-10, 10-11). -/
theorem statusBytes_bank (s : State) (b : BankNo) (j : Nat) (hj : j < 5) :
    s.statusBytes[15 + j + 5 * b.val]? = ((s.stateBytes b)[j]?).map (BitVec.ofNat 8) := by
  have hp := getElem?_flatMap_pieces (stateBytes_length s) (List.finRange 8) b.val j hj
  have hb : (List.finRange 8)[b.val]? = some b := by simp
  rw [hb] at hp
  have hk : 15 + j + 5 * b.val = 15 + (5 * b.val + j) := by ring
  rw [statusBytes_layout, ← List.append_assoc, ← List.append_assoc, ← List.append_assoc, ← List.append_assoc, hk,
    List.getElem?_append_right (by simp)]
  simp only [List.length_append, List.length_cons, List.length_nil, bytesOf_length]
  rw [show 15 + (5 * b.val + j) - (0 + 1 + 1 + 1 + 1 + 1 + 1 + 2 + (0 + 1 + 1 + 1) + 3 + (0 + 1)) = 5 * b.val + j by omega, hp]
  simp

theorem status_mode_byte (s : State) : s.statusBytes[0]? = some (BitVec.ofNat 8 ((match s.mode with
    | .normal => 0
    | .warn => 1
    | .recover => 2) + 4 * s.safe.toNat + 8 * s.port.inFlight.isSome.toNat + 16 * s.pins.resetn.toNat)) := by
  have hv : s.mode.code + 4 * flagsValue [s.safe, s.port.inFlight.isSome, s.pins.resetn] =
      s.mode.code + 4 * s.safe.toNat + 8 * s.port.inFlight.isSome.toNat + 16 * s.pins.resetn.toNat := by
    simp only [flagsValue]
    ring
  rw [statusBytes_layout, hv]
  cases s.mode <;> rfl

theorem status_inFlight_byte (s : State) (op : InFlight) (h : s.port.inFlight = some op) :
    s.statusBytes[1]? = some (BitVec.ofNat 8 (op.bank.val + 16 * (match op.kind with
      | .wordRead => 0
      | .wordWrite => 1
      | .lineWrite => 2
      | .zeroLine => 3))) := by
  rw [statusBytes_layout, h]
  show some (BitVec.ofNat 8 (op.bank.val + 16 * op.kind.code)) = _
  cases op.kind <;> rfl

theorem status_seq_bytes (s : State) : (s.statusBytes.drop 6).take 2 =
    bytesOf 2 ((s.faults.records.head?.map FaultRecord.seq).getD s.faults.nextSeq).toNat := by
  have hs : (s.faults.records.head?.map FaultRecord.seq).getD s.faults.nextSeq = s.oldestSeq := by
    rw [State.oldestSeq]
    cases s.faults.records <;> rfl
  rw [hs, statusBytes_layout]
  exact slice_append rfl (bytesOf_length 2 _)

theorem status_hold_bytes (s : State) : ∃ holds marks : Byte, s.statusBytes[8]? = some holds ∧
    s.statusBytes[9]? = some marks ∧
    ∀ b : BankNo, holds.getLsbD b.val = s.faults.hold[b] ∧ marks.getLsbD b.val = s.faults.unlogged[b] := by
  refine ⟨BitVec.ofNat 8 (flagsValue s.faults.hold.toList), BitVec.ofNat 8 (flagsValue s.faults.unlogged.toList), ?_, ?_,
    fun b => ⟨getLsbD_flags _ b, getLsbD_flags _ b⟩⟩
  · rw [statusBytes_layout]; rfl
  · rw [statusBytes_layout]; rfl

theorem status_clear_byte (s : State) (b : BankNo) (h : s.clear.queue = [] ∨ s.clear.queue.head? = some b) :
    s.statusBytes[10]? = some (BitVec.ofNat 8 (s.clear.queue.length + 16 * s.clear.incomplete.toNat +
      32 * (if s.clear.queue = [] then 0 else b.val))) := by
  rw [statusBytes_layout]
  rcases hq : s.clear.queue with _ | ⟨c, rest⟩
  · rfl
  · rw [hq] at h
    have hc : c = b := by simpa using h
    subst hc
    rfl

theorem status_cursor_bytes (s : State) : (s.statusBytes.drop 11).take 3 = bytesOf 3 s.clear.cursor.toNat := by
  rw [statusBytes_layout, ← List.append_assoc, ← List.append_assoc]
  exact slice_append (by simp) (bytesOf_length 3 _)

theorem status_pins_byte (s : State) :
    s.statusBytes[14]? = some (BitVec.ofNat 8 (s.pins.fltpass.toNat + 2 * s.pins.supwarn.toNat)) := by
  rw [statusBytes_layout]
  rfl

/-- The first state byte of a bank: its state with its direction, and four flags (Table 10-11). -/
theorem status_bankState_byte (s : State) (b : BankNo) :
    s.statusBytes[15 + 5 * b.val]? = some (BitVec.ofNat 8 ((match s.bankState b with
      | .off => 0
      | .retain => 1
      | .active => 2
      | .waking .retain => 3
      | .waking .off => 3 + 8
      | .descending .retain => 4
      | .descending .off => 4 + 8
      | .clearing .retain => 5
      | .clearing .off => 5 + 8
      | .stuck .retain => 6
      | .stuck .off => 6 + 8) + 16 * s.banks[b].lost.toNat + 32 * s.banks[b].pendingWake.toNat +
      64 * (s.clear.wanted[b]).toNat + 128 * (s.fitted b).toNat)) := by
  have hv : (s.stateBytes b)[0]? = some ((s.bankState b).code + 8 * (s.bankState b).direction +
      16 * s.banks[b].lost.toNat + 32 * s.banks[b].pendingWake.toNat + 64 * (s.clear.wanted[b]).toNat +
      128 * (s.fitted b).toNat) := by
    simp only [State.stateBytes, State.bankState, flagsValue, List.length_cons, Nat.zero_lt_succ, getElem?_pos,
      List.getElem_cons_zero, Option.some.injEq]
    ring
  have := statusBytes_bank s b 0 (by decide)
  rw [Nat.add_zero, hv] at this
  rw [this]
  match s.bankState b with
  | .off | .retain | .active | .waking .retain | .waking .off | .descending .retain | .descending .off
  | .clearing .retain | .clearing .off | .stuck .retain | .stuck .off => rfl

/-- The second: request level, reported level, settled indication. -/
theorem status_level_byte (s : State) (b : BankNo) :
    s.statusBytes[16 + 5 * b.val]? = some (BitVec.ofNat 8 ((match s.banks[b].request with
      | .off => 0
      | .retain => 1
      | .active => 2) + 4 * (match s.banks[b].reported with
      | .off => 0
      | .retain => 1
      | .active => 2
      | .fourth => 3) + 16 * s.banks[b].settled.toNat)) := by
  rw [statusBytes_bank s b 1 (by decide)]
  show some (BitVec.ofNat 8 (s.banks[b].request.code + 4 * statusCode s.banks[b].reported + 16 * s.banks[b].settled.toNat)) = _
  cases s.banks[b].request <;> cases s.banks[b].reported <;> rfl

/-- The third: the drain causes. -/
theorem status_cause_byte (s : State) (b : BankNo) :
    s.statusBytes[17 + 5 * b.val]? = some (BitVec.ofNat 8 ((s.causes[b]).age.toNat + 2 * (s.causes[b]).pressure.toNat +
      4 * (s.causes[b]).flush.toNat + 8 * (s.causes[b]).warn.toNat)) := by
  rw [statusBytes_bank s b 2 (by decide)]
  show some (BitVec.ofNat 8 (flagsValue [_, _, _, _])) = _
  congr 2
  simp only [flagsValue]
  ring

/-! ## SLOT READ -/

/-- The 47 result bytes of SLOT READ for an occupied slot, each field in its place (Table 10-7). -/
theorem slotReadBytes_layout (s : State) {i : SlotNo} {l : Line} (h : s.store.slots[i] = some l) : s.slotReadBytes i =
    [BitVec.ofNat 8 ((if l.state = .held then 1 else 2) + 4 * l.redirty.toNat)] ++ (bytesOf 3 l.addr.toNat ++
    (bytesOf 4 (flagsValue (maskOf l.bytes).toList) ++ (l.bytes.toList.map (fun o => o.getD 0) ++
    (bytesOf 2 l.allocatedAt.toNat ++ (bytesOf 2 l.age.toNat ++
    [l.contributors, l.drainContributors, BitVec.ofNat 8 (s.store.ageList.idxOf i)]))))) := by
  simp only [State.slotReadBytes, h, bytesOf_one, List.append_assoc]
  cases l.state <;> rfl

theorem slotReadBytes_length (s : State) (i : SlotNo) : (s.slotReadBytes i).length = 47 := by
  cases h : s.store.slots[i] with
  | none => simp [State.slotReadBytes, h]
  | some l => simp [slotReadBytes_layout s h]

theorem slotRead_free (s : State) {i : SlotNo} (h : s.store.slots[i] = none) :
    s.slotReadBytes i = List.replicate 46 0 ++ [0xFF] := by
  simp only [State.slotReadBytes, h, bytesOf_zero]

/-- The fields of an occupied slot as SLOT READ lays them out. -/
theorem slotRead_occupied (s : State) {i : SlotNo} {l : Line} (h : s.store.slots[i] = some l) :
    (s.slotReadBytes i)[0]? = some (BitVec.ofNat 8 ((if l.state = .held then 1 else 2) + 4 * l.redirty.toNat)) ∧
    ((s.slotReadBytes i).drop 1).take 3 = bytesOf 3 l.addr.toNat ∧
    (∃ mask : BitVec 32, ((s.slotReadBytes i).drop 4).take 4 = bytesOf 4 mask.toNat ∧
      ∀ n : Fin 32, mask.getLsbD n.val = (l.bytes[n]).isSome) ∧
    ((s.slotReadBytes i).drop 40).take 2 = bytesOf 2 l.allocatedAt.toNat ∧
    ((s.slotReadBytes i).drop 42).take 2 = bytesOf 2 l.age.toNat ∧
    (∀ n : Fin 32, (s.slotReadBytes i)[8 + n.val]? = some ((l.bytes[n]).getD 0)) ∧
    (s.slotReadBytes i)[44]? = some l.contributors ∧ (s.slotReadBytes i)[45]? = some l.drainContributors ∧
    (s.slotReadBytes i)[46]? = some (BitVec.ofNat 8 (s.store.ageList.idxOf i)) := by
  rw [slotReadBytes_layout s h]
  refine ⟨rfl, slice_append rfl (bytesOf_length 3 _), ⟨BitVec.ofNat 32 (flagsValue (maskOf l.bytes).toList), ?_, fun n => ?_⟩,
    ?_, ?_, fun n => ?_, ?_, ?_, ?_⟩
  · have hm : (BitVec.ofNat 32 (flagsValue (maskOf l.bytes).toList)).toNat = flagsValue (maskOf l.bytes).toList := by
      have := flagsValue_lt (maskOf l.bytes).toList
      rw [Vector.length_toList] at this
      exact Nat.mod_eq_of_lt this
    rw [hm, ← List.append_assoc]
    exact slice_append rfl (bytesOf_length 4 _)
  · rw [getLsbD_flags, maskOf, mapAll_self]
  · rw [← List.append_assoc, ← List.append_assoc, ← List.append_assoc]
    exact slice_append (by simp) (bytesOf_length 2 _)
  · rw [← List.append_assoc, ← List.append_assoc, ← List.append_assoc, ← List.append_assoc]
    exact slice_append (by simp) (bytesOf_length 2 _)
  · rw [← List.append_assoc, ← List.append_assoc, List.getElem?_append_right (by simp), List.getElem?_append_left (by simp)]
    simp
  all_goals rw [← List.append_assoc, ← List.append_assoc, ← List.append_assoc, ← List.append_assoc, ← List.append_assoc,
    List.getElem?_append_right (by simp)]
  all_goals simp

/-- Settles O46, by the layouts of the two reports. -/
theorem reportsChangeOnlyTheFrame : Obligations.ReportsChangeOnlyTheFrame := by
  intro s frame slot
  refine ⟨fun hw hn => ?_, fun hw hn hd => ?_, fun hn hd => ?_, fun hw => ?_, fun hw hs => ?_, fun i hw hs => ?_⟩
  · simp only [exec, execInvalidCommand, hn, if_true, State.onFrame_taken hw]
    rfl
  · simp only [exec, execInvalidCommand, hn, hd, State.onFrame_taken hw]
    rfl
  · have hd' : (decodeFrame frame).isNone = false := by simpa [← Option.isSome_iff_ne_none] using hd
    simp only [exec, execInvalidCommand, hn, hd']
    rfl
  · refine ⟨s.statusBytes, State.onFrame_taken hw _, statusBytes_length s, status_mode_byte s, status_inFlight_byte s,
      status_seq_bytes s, status_hold_bytes s, status_clear_byte s, status_cursor_bytes s, status_pins_byte s,
      fun b => ⟨status_bankState_byte s b, status_level_byte s b, status_cause_byte s b⟩, ?_, ?_, ?_, ?_,
      fun b => ⟨statusBytes_bank s b 3 (by decide), statusBytes_bank s b 4 (by decide)⟩⟩
    · rw [statusBytes_layout]; rfl
    · rw [statusBytes_layout]; rfl
    · rw [statusBytes_layout]; rfl
    · have ho : BitVec.ofNat 8 s.faults.overflow.toNat = s.faults.overflow := by simp
      rw [statusBytes_layout, ho]
      rfl
  · simp only [exec, execSlotRead, State.onFrame_taken hw, dif_neg (Nat.not_lt.2 hs)]
    rfl
  · have hi : slot.toNat < 32 := hs ▸ i.isLt
    have he : (⟨slot.toNat, hi⟩ : SlotNo) = i := Fin.ext hs
    refine ⟨s.slotReadBytes i, ?_, slotReadBytes_length s i, slotRead_free s, fun l => slotRead_occupied s⟩
    simp only [exec, execSlotRead, State.onFrame_taken hw, dif_pos hi, he]
    rfl

end Sys2Proof.Machine

/-! The parts of an event's end, each with what it leaves alone: what comes before the grant leaves the M port (`PortKept`);
age expiries, the pressure choice and the timers leave all but power and causes (`PowerEnd`); the grant issues one entry or
drains one slot (`GrantEnd`); and an end without a walk is made of the last two (`TailEnd`). -/

namespace Sys2Proof.Machine

theorem DrainCauses.Sub.any {c d : DrainCauses} (h : c.Sub d) (hc : c.any = true) : d.any = true := by
  obtain ⟨h1, h2, h3, h4⟩ := h
  simp only [DrainCauses.any, Bool.or_eq_true] at hc ⊢
  tauto

/-! ## Age expiries, the pressure choice and the timers -/

/-- A bank record changed in its idle and off timers alone. -/
def TimersOnly (k k' : BankRecord) : Prop := k' = { k with idleTimer := k'.idleTimer, offTimer := k'.offTimer }

theorem TimersOnly.refl (k : BankRecord) : TimersOnly k k := rfl

theorem TimersOnly.trans {k k' k'' : BankRecord} (h : TimersOnly k k') (h' : TimersOnly k' k'') : TimersOnly k k'' := by
  unfold TimersOnly at *
  rw [h] at h'
  exact h'.trans (by simp)

section
variable {k k' : BankRecord} (h : TimersOnly k k')
include h

theorem TimersOnly.state : k'.state = k.state := by rw [h]
theorem TimersOnly.request : k'.request = k.request := by rw [h]
theorem TimersOnly.reported : k'.reported = k.reported := by rw [h]
theorem TimersOnly.settled : k'.settled = k.settled := by rw [h]
theorem TimersOnly.lost : k'.lost = k.lost := by rw [h]
theorem TimersOnly.pendingWake : k'.pendingWake = k.pendingWake := by rw [h]
theorem TimersOnly.settleTimer : k'.settleTimer = k.settleTimer := by rw [h]
theorem TimersOnly.wakeCount : k'.wakeCount = k.wakeCount := by rw [h]

end

/-- A bank that a cause has moved: its drain-wanted flag has become set (R105). Any other keeps its record but for its
timers. -/
def MovedByCause (s t : State) (b : BankNo) : Prop :=
  TimersOnly s.banks[b] t.banks[b] ∨ ((s.causes[b]).any = false ∧ (t.causes[b]).any = true)

/-- What changes power and causes alone: the queue, the store and the M port stay. -/
structure PowerEnd (s t : State) : Prop where
  store : t.store = s.store
  queue : t.queue = s.queue
  out : t.out = s.out
  port : t.port = s.port
  causes : ∀ b : BankNo, (s.causes[b]).Sub t.causes[b]
  wanted : ∀ b : BankNo, s.clear.wanted[b] = false → t.clear.wanted[b] = false
  moved : ∀ b : BankNo, MovedByCause s t b
  lineless : ∀ b : BankNo, s.lineCount b = 0 → t.causes[b] = s.causes[b]

theorem MovedByCause.trans {s t u : State} {b : BankNo} (hst : MovedByCause s t b) (htu : MovedByCause t u b)
    (hc : (s.causes[b]).Sub t.causes[b]) (hd : (t.causes[b]).Sub u.causes[b]) : MovedByCause s u b := by
  rcases hst with h | ⟨h0, h1⟩
  · rcases htu with h' | ⟨h0, h1⟩
    · exact .inl (h.trans h')
    · refine .inr ⟨?_, h1⟩
      by_contra hn
      rw [hc.any (by simpa using hn)] at h0
      cases h0
  · exact .inr ⟨h0, hd.any h1⟩

namespace PowerEnd

theorem refl (s : State) : PowerEnd s s :=
  ⟨rfl, rfl, rfl, rfl, fun _ => .refl _, fun _ h => h, fun _ => .inl (.refl _), fun _ _ => rfl⟩

theorem trans {s t u : State} (h : PowerEnd s t) (h' : PowerEnd t u) : PowerEnd s u where
  store := h'.store.trans h.store
  queue := h'.queue.trans h.queue
  out := h'.out.trans h.out
  port := h'.port.trans h.port
  causes := fun b => (h.causes b).trans (h'.causes b)
  wanted := fun b x => h'.wanted b (h.wanted b x)
  moved := fun b => (h.moved b).trans (h'.moved b) (h.causes b) (h'.causes b)
  lineless := fun b x => by
    have hl : t.lineCount b = 0 := by rw [State.lineCount, h.store]; exact x
    exact (h'.lineless b hl).trans (h.lineless b x)

theorem foldl {α : Type} {f : State → α → State} (hf : ∀ s a, PowerEnd s (f s a)) (l : List α) (s : State) :
    PowerEnd s (l.foldl f s) := by
  induction l generalizing s with
  | nil => exact .refl s
  | cons a l ih => exact (hf s a).trans (ih _)

end PowerEnd

/-- A settle from WAKING sets no clear-pending flag. -/
theorem settleWaking_wanted (s : State) (b c : BankNo) (o : Rest) (h : s.clear.wanted[c] = false) :
    (s.settleWaking b o).clear.wanted[c] = false := by
  have enter : ∀ (u : State) (q : Rest), u.clear.wanted[c] = false → (u.enterClearing b q).clear.wanted[c] = false := by
    intro u q hu
    by_cases e : b = c
    · subst e
      exact updAt_self _ _ _
    · exact (updAt_ne _ _ e).trans hu
  unfold State.settleWaking
  split
  · split
    · exact enter s .retain h
    · exact h
  · dsimp only
    split
    · exact enter _ .off h
    · exact h

theorem wake_wanted (s : State) (b c : BankNo) (o : Rest) (h : s.clear.wanted[c] = false) :
    (s.wake b o).clear.wanted[c] = false := by
  unfold State.wake
  dsimp only
  split
  · exact settleWaking_wanted _ b c o h
  · exact h

theorem demand_wanted (s : State) (b c : BankNo) (h : s.clear.wanted[c] = false) :
    (s.demand b).clear.wanted[c] = false := by
  unfold State.demand
  split
  · split
    · exact wake_wanted s b c .off h
    · exact wake_wanted s b c .retain h
    all_goals exact h
  · exact h

namespace PowerEnd

/-- A cause joins the set of a bank that holds lines, and wakes the bank if that sets its flag (R99, R105). -/
theorem addCause (s : State) (b : BankNo) (f : DrainCauses → DrainCauses) (hm : ∀ c : DrainCauses, c.Sub (f c))
    (ha : ∀ c, (f c).any = true) : PowerEnd s (s.addCause b f) := by
  have sub : ∀ c : BankNo, (s.causes[c]).Sub (updAt s.causes b f)[c] := by
    intro c
    by_cases e : b = c
    · subst e
      rw [updAt_self]
      exact hm _
    · rw [updAt_ne _ _ e]
      exact .refl _
  have lineless : s.lineCount b ≠ 0 → ∀ c : BankNo, s.lineCount c = 0 → (updAt s.causes b f)[c] = s.causes[c] := by
    intro hb c hc
    exact updAt_ne _ _ fun e => hb (e ▸ hc)
  unfold State.addCause
  split
  · exact .refl s
  next hl =>
    split
    · exact ⟨rfl, rfl, rfl, rfl, sub, fun _ h => h, fun _ => .inl (.refl _), lineless hl⟩
    next hw =>
      refine ⟨by simp, by simp, by simp, by simp, fun c => ?_, fun c h => demand_wanted _ b c h, fun c => ?_, fun c hc => ?_⟩
      · rw [State.demand_causes]
        exact sub c
      · by_cases e : b = c
        · subst e
          refine .inr ⟨by simpa [State.drainWanted] using hw, ?_⟩
          rw [State.demand_causes, State.setCauses_causes, updAt_self]
          exact ha _
        · refine .inl ?_
          rw [State.demand_other _ e]
          exact .refl _
      · rw [State.demand_causes]
        exact lineless hl c hc

theorem addAge (s : State) (b : BankNo) : PowerEnd s (s.addCause b fun c => { c with age := true }) :=
  addCause s b _ (fun _ => ⟨fun _ => rfl, id, id, id⟩) fun _ => rfl

theorem addPressure (s : State) (b : BankNo) : PowerEnd s (s.addCause b fun c => { c with pressure := true }) :=
  addCause s b _ (fun _ => ⟨id, fun _ => rfl, id, id⟩) fun c => by simp [DrainCauses.any]

theorem takeAgeExpiries (pre s : State) : PowerEnd s (State.takeAgeExpiries pre s) := by
  refine foldl (fun t b => ?_) _ s
  split
  · exact addAge t b
  · exact .refl t

theorem pressureChoice (s : State) : PowerEnd s s.pressureChoice := by
  unfold State.pressureChoice
  split
  · dsimp only
    split
    · exact addPressure s _
    · exact .refl s
  · exact .refl s

theorem refreshTimersOf (s : State) (b : BankNo) : PowerEnd s (s.refreshTimersOf b) := by
  refine ⟨rfl, rfl, rfl, rfl, fun _ => .refl _, fun _ h => h, fun c => .inl ?_, fun _ _ => rfl⟩
  by_cases e : b = c
  · subst e
    rw [TimersOnly, State.refreshTimersOf, State.setBank_same]
  · rw [State.refreshTimersOf, State.setBank_other _ _ e]
    exact .refl _

theorem latchSafe (pre s : State) : PowerEnd s (State.latchSafe pre s) := by
  unfold State.latchSafe
  split
  · exact ⟨rfl, rfl, rfl, rfl, fun _ => .refl _, fun _ h => h, fun _ => .inl (.refl _), fun _ _ => rfl⟩
  · exact .refl s

theorem afterGrant (s pre : State) : PowerEnd s (s.afterGrant pre) :=
  (foldl refreshTimersOf _ s).trans (latchSafe pre _)

/-- What comes before the grant, where the queue is left to rest. -/
theorem untilGrant {s pre : State} {released : Bool} (h : State.runQueue pre released s = s) :
    PowerEnd s (s.untilGrant pre released) := by
  rw [State.untilGrant, h]
  exact (takeAgeExpiries pre s).trans (pressureChoice _)

end PowerEnd

/-! ## What comes before the grant leaves the M port -/

/-- The M port, and what has left it, stay. -/
structure PortKept (s t : State) : Prop where
  port : t.port = s.port
  issued : t.out.issued = s.out.issued

namespace PortKept

theorem refl (s : State) : PortKept s s := ⟨rfl, rfl⟩

theorem trans {s t u : State} (h : PortKept s t) (h' : PortKept t u) : PortKept s u :=
  ⟨h'.port.trans h.port, h'.issued.trans h.issued⟩

theorem of_power {s t : State} (h : PowerEnd s t) : PortKept s t := ⟨h.port, by rw [h.out]⟩

theorem perform (s : State) (r : Request) (v : Verdict) : PortKept s (s.perform r v) := by
  cases v with
  | held reason =>
    cases reason with
    | bank => exact ⟨State.demand_port s _, by rw [State.perform, State.demand_out]⟩
    | _ => exact .refl s
  | _ => exact ⟨rfl, rfl⟩

theorem setStatus (s : State) (k : Nat) (st : EntryStatus) : PortKept s (s.setStatus k st) := ⟨rfl, rfl⟩

theorem removeEntry (s : State) (k : Nat) : PortKept s (s.removeEntry k) := ⟨rfl, rfl⟩

theorem answerEntry (s : State) (k : Nat) (e : Entry) (code : Code) (data : List Word) :
    PortKept s (s.answerEntry k e code data) := ⟨rfl, rfl⟩

theorem reevaluate (s : State) (k : Nat) (e : Entry) : PortKept s (s.reevaluate k e) := by
  unfold State.reevaluate
  dsimp only
  split
  · exact (setStatus s k _).trans (perform _ _ _)
  · exact (removeEntry s k).trans (perform _ _ _)

theorem sweep (rule : State → Nat → Entry → Visit) (fuel k : Nat) (s : State) :
    PortKept s (Machine.sweep rule fuel k s) := by
  induction fuel generalizing k s with
  | zero => exact .refl s
  | succ n ih =>
    unfold Machine.sweep
    split
    · exact .refl s
    · split
      · exact ih _ _
      · exact (answerEntry s k _ .eBank []).trans (ih _ _)
      · split
        · exact (reevaluate s k _).trans (ih _ _)
        · exact (reevaluate s k _).trans (ih _ _)

theorem releaseWalks (n : Nat) (s : State) : PortKept s (State.releaseWalks n s) := by
  induction n generalizing s with
  | zero => exact .refl s
  | succ n ih =>
    have hw : PortKept s s.releaseWalk := sweep ..
    unfold State.releaseWalks
    dsimp only
    split
    · exact hw.trans (ih _)
    · exact hw

theorem runQueue (pre : State) (released : Bool) (s : State) : PortKept s (State.runQueue pre released s) := by
  have hf : PortKept s (State.freezeReevaluation pre s) := sweep ..
  unfold State.runQueue
  dsimp only
  split
  · exact hf.trans (releaseWalks _ _)
  · exact hf

theorem untilGrant (s pre : State) (released : Bool) : PortKept s (s.untilGrant pre released) :=
  (runQueue pre released s).trans <| (of_power (.takeAgeExpiries pre _)).trans (of_power (.pressureChoice _))

end PortKept

/-! ## The grant -/

/-- The entry that may be granted is READY for an ACTIVE bank (R65, R124). -/
theorem readyEntry_some {s : State} {k : Nat} (h : s.readyEntry = some k) :
    ∃ e, s.queue[k]? = some e ∧ e.status = .ready ∧ s.bankState e.request.bank = .active := by
  obtain ⟨hk, hp, -⟩ := List.findIdx?_eq_some_iff_getElem.mp h
  exact ⟨s.queue[k], List.getElem?_eq_getElem hk, by simpa using hp⟩

/-- The slot that may be drained holds a HELD line of an ACTIVE bank (R107). -/
theorem isCandidate_some {s : State} {i : SlotNo} (h : s.isCandidate false i = true) :
    ∃ l, s.store.slots[i] = some l ∧ l.state = .held ∧ s.bankState l.bank = .active := by
  unfold State.isCandidate at h
  split at h
  next l hl => exact ⟨l, hl, by simpa using h⟩
  · cases h

/-- What the Arbiter does: nothing, while it may not grant or has no work, or one grant by its choice (R134, R135). -/
theorem grant_cases (s : State) :
    (s.grant = s ∧ (s.pins.resetn = true ∨ s.port.inFlight ≠ none ∨ s.choice = none)) ∨
      (∃ k, s.grant = s.grantEntry k ∧ s.readyEntry = some k) ∨
      (∃ i cls, s.grant = s.grantDrain i cls ∧ s.isCandidate false i = true) ∨
      ∃ b, s.grant = s.grantZeroLine b ∧ s.zeroLineOffer = some b := by
  unfold State.grant
  split
  next hc =>
    refine .inl ⟨rfl, ?_⟩
    rcases Bool.or_eq_true_iff.mp hc with h | h
    · exact .inl h
    · exact .inr (.inl (by simpa [Option.isSome_iff_ne_none] using h))
  · split
    next k h => exact .inr (.inl ⟨k, rfl, State.choice_entry h⟩)
    next i cls h => exact .inr (.inr (.inl ⟨i, cls, rfl, State.drainOffer_candidate (State.choice_drain h)⟩))
    next b h => exact .inr (.inr (.inr ⟨b, rfl, State.choice_zeroLine h⟩))
    next h => exact .inl ⟨rfl, .inr (.inr h)⟩

theorem grant_reset {s : State} (h : s.pins.resetn = true) : s.grant = s := by simp [State.grant, h]

/-- The start of a drain of a HELD line (R11). -/
def DrainStarts (o o' : Option Line) : Prop :=
  ∃ l, o = some l ∧ l.state = .held ∧
    o' = some { l with state := .draining, drainContributors := 0, redirty := false }

/-- What the grant moves: it may issue one READY entry or start the drain of one HELD line. -/
structure GrantEnd (s t : State) : Prop where
  banks : t.banks = s.banks := by rfl
  causes : t.causes = s.causes := by rfl
  wanted : t.clear.wanted = s.clear.wanted := by rfl
  lines : ∀ b, t.lineCount b = s.lineCount b := by exact fun _ => rfl
  fill : t.store.fill = s.store.fill := by rfl
  slots : ∀ i : SlotNo, t.store.slots[i] = s.store.slots[i] ∨ DrainStarts s.store.slots[i] t.store.slots[i] := by
    exact fun _ => .inl rfl
  statuses : ∀ (k : Nat) (e : Entry), s.queue[k]? = some e → t.queue[k]? = some e ∨
    (e.status = .ready ∧ t.queue[k]? = some { e with status := .issued }) := by exact fun _ _ h => .inl h

theorem grantEntry_end {s : State} {k : Nat} (h : s.readyEntry = some k) : GrantEnd s (s.grantEntry k) := by
  obtain ⟨e, he, hr, -⟩ := readyEntry_some h
  have statuses : ∀ (j : Nat) (e' : Entry), s.queue[j]? = some e' → (s.setStatus k .issued).queue[j]? = some e' ∨
      (e'.status = .ready ∧ (s.setStatus k .issued).queue[j]? = some { e' with status := .issued }) := by
    intro j e' hj
    rw [State.setStatus_queue, List.getElem?_modify, hj]
    by_cases ej : k = j
    · subst ej
      rw [he] at hj
      cases hj
      exact .inr ⟨hr, by simp⟩
    · exact .inl (by simp [ej])
  unfold State.grantEntry
  split
  · exact {}
  · dsimp only
    split
    · exact { statuses := statuses }
    · exact { statuses := statuses }

theorem grantDrain_end {s : State} {i : SlotNo} (cls : DrainClass) (h : s.isCandidate false i = true) :
    GrantEnd s (s.grantDrain i cls) := by
  obtain ⟨l, hl, hh, -⟩ := isCandidate_some h
  have slots : ∀ j : SlotNo, (s.store.startDrain i).slots[j] = s.store.slots[j] ∨
      DrainStarts s.store.slots[j] (s.store.startDrain i).slots[j] := by
    intro j
    rw [LineStore.startDrain, LineStore.onLine_slot]
    by_cases e : i = j
    · subst e
      exact .inr ⟨l, hl, hh, by simp only [if_true, hl, Option.map_some]⟩
    · exact .inl (by simp only [e, if_false, Option.map_id, id])
  have lines : ∀ b, (s.store.startDrain i).lineCount b = s.store.lineCount b :=
    s.store.onLine_lineCount i _ fun _ => rfl
  have fill : (s.store.startDrain i).fill = s.store.fill := s.store.onLine_fill i _
  unfold State.grantDrain
  split
  · exact {}
  · cases cls <;> exact { slots := slots, lines := lines, fill := fill }

theorem grant_end (s : State) : GrantEnd s s.grant := by
  rcases grant_cases s with ⟨h, -⟩ | ⟨k, h, hk⟩ | ⟨i, cls, h, hi⟩ | ⟨b, h, -⟩ <;> rw [h]
  · exact {}
  · exact grantEntry_end hk
  · exact grantDrain_end cls hi
  · exact {}

/-! ## The end of an event that leaves the queue to rest -/

/-- What the end of an event moves where no walk is made. -/
structure TailEnd (s t : State) : Prop where
  quiet : QuietEnd s t
  slots : ∀ i : SlotNo, t.store.slots[i] = s.store.slots[i] ∨ DrainStarts s.store.slots[i] t.store.slots[i]
  statuses : ∀ (k : Nat) (e : Entry), s.queue[k]? = some e → t.queue[k]? = some e ∨
    (e.status = .ready ∧ t.queue[k]? = some { e with status := .issued })
  causes : ∀ b : BankNo, (s.causes[b]).Sub t.causes[b]
  wanted : ∀ b : BankNo, s.clear.wanted[b] = false → t.clear.wanted[b] = false
  moved : ∀ b : BankNo, MovedByCause s t b
  lineless : ∀ b : BankNo, s.lineCount b = 0 → t.causes[b] = s.causes[b]

theorem PowerEnd.quiet {s t : State} (h : PowerEnd s t) : QuietEnd s t := .of_blocks h.out h.queue h.store

theorem PowerEnd.tail {s t : State} (h : PowerEnd s t) : TailEnd s t where
  quiet := h.quiet
  slots := fun i => .inl (by rw [h.store])
  statuses := fun k e he => .inl (by rw [h.queue]; exact he)
  causes := h.causes
  wanted := h.wanted
  moved := h.moved
  lineless := h.lineless

/-- Power and causes, then the grant, then power and causes. -/
theorem tailEnd_of_parts {s u t : State} (h : PowerEnd s u) (h' : PowerEnd u.grant t) : TailEnd s t := by
  have g := grant_end u
  have gm : ∀ b, MovedByCause u u.grant b := fun b => .inl (by rw [g.banks]; exact .refl _)
  have gc : ∀ b : BankNo, (u.causes[b]).Sub u.grant.causes[b] := fun b => by rw [g.causes]; exact .refl _
  refine ⟨h.quiet.trans ((QuietEnd.grant u).trans h'.quiet), fun i => ?_, fun k e he => ?_, fun b => ?_, fun b hb => ?_,
    fun b => ?_, fun b hb => ?_⟩
  · rw [h'.store, ← h.store]
    exact g.slots i
  · rw [h'.queue]
    exact g.statuses k e (by rw [h.queue]; exact he)
  · exact (h.causes b).trans ((gc b).trans (h'.causes b))
  · exact h'.wanted b (by rw [g.wanted]; exact h.wanted b hb)
  · exact (h.moved b).trans ((gm b).trans (h'.moved b) (gc b) (h'.causes b)) (h.causes b) ((gc b).trans (h'.causes b))
  · have hu : u.lineCount b = 0 := by rw [State.lineCount, h.store]; exact hb
    rw [h'.lineless b ((g.lines b).trans hu), g.causes, h.lineless b hb]

theorem finish_tail {s pre : State} {released : Bool} (h : State.runQueue pre released s = s) :
    TailEnd s (s.finish pre released) :=
  tailEnd_of_parts (.untilGrant h) (.afterGrant _ pre)

theorem finishCompletion_tail {s pre : State} {released : Bool} (h : State.runQueue pre released s = s) :
    TailEnd s (s.finishCompletion pre released) := by
  unfold State.finishCompletion
  split
  · exact ((PowerEnd.untilGrant h).trans (.afterGrant _ pre)).tail
  · exact finish_tail h

/-! ## What follows the grant -/

theorem refreshTimers_eq (s : State) : s.refreshTimers = { s with banks := s.refreshTimers.banks } := by
  have h := foldl_keeps (f := State.refreshTimersOf) (fun u : State => { u with banks := s.banks }) (fun _ _ => rfl)
    (List.finRange 8) s
  exact congrArg (fun u : State => { u with banks := s.refreshTimers.banks }) h

/-- After the grant only timers move, and the SAFE cause may be latched. -/
theorem afterGrant_eq (s pre : State) :
    s.afterGrant pre = { s with banks := (s.afterGrant pre).banks, irq := (s.afterGrant pre).irq } := by
  unfold State.afterGrant State.latchSafe
  split <;> rw [refreshTimers_eq]

/-- The SAFE cause is latched when SAFE has come to be asserted (R181, R168). -/
theorem afterGrant_irq (s pre : State) :
    (s.afterGrant pre).irq = if !pre.safe && s.safe then { s.irq with safe := true } else s.irq := by
  have hs : s.refreshTimers.safe = s.safe := by rw [refreshTimers_eq]; rfl
  have hi : s.refreshTimers.irq = s.irq := by rw [refreshTimers_eq]
  unfold State.afterGrant State.latchSafe
  rw [hs, ← hi]
  split <;> rfl

theorem afterGrant_bank (s pre : State) (b : BankNo) : (s.afterGrant pre).banks[b] = refreshedRecord s b := by
  have hb : (s.afterGrant pre).banks = s.refreshTimers.banks := by
    unfold State.afterGrant State.latchSafe
    split <;> rfl
  rw [hb, refreshTimers_bank]

theorem afterGrant_bankState (s pre : State) (b : BankNo) : (s.afterGrant pre).bankState b = s.bankState b := by
  rw [State.bankState, afterGrant_bank]
  rfl

/-- The conditions of the timers stand as the timers follow them. -/
theorem afterGrant_conditions (s pre : State) (b : BankNo) :
    (s.afterGrant pre).idleConditions b = s.idleConditions b ∧ (s.afterGrant pre).offConditions b = s.offConditions b := by
  unfold State.idleConditions State.offConditions
  rw [afterGrant_bankState, afterGrant_eq]
  exact ⟨rfl, rfl⟩

end Sys2Proof.Machine

/-! HWM and AGE LIMIT apply at the write, and DISCARD gives up the lines of a bank. -/

namespace Sys2Proof.Machine

namespace State

/-! ## Events that are no release events -/

/-- No release event: no bank entered ACTIVE or STUCK, no hold cleared, FLTPASS stood, no slot became FREE (R60). -/
theorem isRelease_false {pre s : State}
    (hb : ∀ b, (s.bankState b = .active → pre.bankState b = .active) ∧
      ((s.bankState b).isStuck = true → (pre.bankState b).isStuck = true))
    (hh : s.faults.hold = pre.faults.hold) (hp : s.pins.fltpass = pre.pins.fltpass)
    (hs : ∀ i : SlotNo, (pre.store.slots[i]).isSome = true → (s.store.slots[i]).isSome = true) :
    isRelease pre s = false := by
  have entered : enteredActive pre s = false := by
    simp only [enteredActive, List.any_eq_false, Bool.and_eq_true, bne_iff_ne, beq_iff_eq, not_and]
    exact fun b _ h h' => h ((hb b).1 h')
  have cleared : holdCleared pre s = false := by simp [holdCleared, hh]
  have freed : slotFreed pre s = false := by
    simp only [slotFreed, List.any_eq_false, Bool.and_eq_true, not_and]
    intro i _ h h'
    have := hs i h
    rw [Option.isNone_iff_eq_none] at h'
    rw [h'] at this
    cases this
  have stuck : becameStuck pre s = false := by
    simp only [becameStuck, List.any_eq_false, Bool.and_eq_true, Bool.not_eq_true', not_and]
    intro b _ h h'
    rw [(hb b).2 h'] at h
    cases h
  simp [isRelease, entered, cleared, freed, stuck, hp]

/-- Where the event is no release event and the holds stand, the queue is left to rest. -/
theorem runQueue_rests {pre s : State}
    (hb : ∀ b, (s.bankState b = .active → pre.bankState b = .active) ∧
      ((s.bankState b).isStuck = true → (pre.bankState b).isStuck = true))
    (hh : s.faults.hold = pre.faults.hold) (hp : s.pins.fltpass = pre.pins.fltpass)
    (hs : ∀ i : SlotNo, (pre.store.slots[i]).isSome = true → (s.store.slots[i]).isSome = true) :
    runQueue pre false s = s :=
  runQueue_quiet (becameFrozen_same hh hp) (isRelease_false hb hh hp hs)

/-- So it is where banks, holds, FLTPASS and slots are as they were. -/
theorem runQueue_unmoved {pre s : State} (hb : s.banks = pre.banks) (hh : s.faults.hold = pre.faults.hold)
    (hp : s.pins.fltpass = pre.pins.fltpass) (hs : s.store.slots = pre.store.slots) : runQueue pre false s = s :=
  runQueue_rests (fun b => by rw [bankState, bankState, hb]; exact ⟨id, id⟩) hh hp fun i h => by rwa [hs]

/-! ## Age expiries -/

theorem takeAgeExpiries_none {pre s : State} (h : ∀ b, s.ageExpired b = true → pre.ageExpired b = true) :
    takeAgeExpiries pre s = s := by
  have hf : ∀ b, (!pre.ageExpired b && s.ageExpired b) = false := fun b => by
    cases hs : s.ageExpired b with
    | false => simp
    | true => simp [h b hs]
  simp [takeAgeExpiries, hf]

/-- A bank whose age-expired indication is true holds lines (R22). -/
theorem lineCount_of_ageExpired {s : State} {b : BankNo} (h : s.ageExpired b = true) : s.lineCount b ≠ 0 := by
  simp only [ageExpired, Bool.and_eq_true] at h
  obtain ⟨-, h⟩ := h
  split at h
  next i hi =>
    have hp := List.find?_some hi
    simp only [Bool.and_eq_true] at hp
    intro h0
    have := (LineStore.lineCount_eq_zero_iff s.store b).1 h0 i
    rw [this] at hp
    exact absurd hp.2 (by decide)
  · cases h

/-- The causes after a cause has joined the set of a bank that holds lines (R99). -/
theorem addCause_causes {s : State} {b : BankNo} (f : DrainCauses → DrainCauses) (h : s.lineCount b ≠ 0) :
    (s.addCause b f).causes = updAt s.causes b f := by
  unfold addCause
  rw [if_neg h]
  split <;> simp

/-- A bank whose indication became true has the AGE cause after the expiries (R22, R100). -/
theorem takeAgeExpiries_age {pre s : State} {b : BankNo} (hp : pre.ageExpired b = false) (hs : s.ageExpired b = true) :
    ((takeAgeExpiries pre s).causes[b]).age = true := by
  have step : ∀ (t : State) (a : BankNo), PowerEnd t (if !pre.ageExpired a && s.ageExpired a then
      t.addCause a fun c => { c with age := true } else t) := by
    intro t a
    split
    · exact .addAge t a
    · exact .refl t
  suffices ∀ (banks : List BankNo) (t : State), t.lineCount b ≠ 0 → b ∈ banks ∨ (t.causes[b]).age = true →
      ((banks.foldl (fun t a => if !pre.ageExpired a && s.ageExpired a then
        t.addCause a fun c => { c with age := true } else t) t).causes[b]).age = true from
    this _ s (lineCount_of_ageExpired hs) (.inl (List.mem_finRange b))
  intro banks
  induction banks with
  | nil =>
    rintro t - (h | h)
    · cases h
    · exact h
  | cons a rest ih =>
    intro t hl h
    refine ih _ ?_ ?_
    · rw [lineCount, (step t a).store]
      exact hl
    · by_cases e : b = a
      · subst e
        refine .inr ?_
        simp only [hp, hs, Bool.not_false, Bool.and_self, if_true, addCause_causes _ hl, updAt_self]
      · refine h.imp (fun h => ?_) ((step t a).causes b).1
        simpa [e] using h

/-! ## The pressure choice -/

/-- The bank that a slot offers to the pressure choice: its line's, unless that is STUCK (R101). -/
def pressureCandidate (s : State) (i : SlotNo) : Option BankNo :=
  match s.store.slots[i] with
  | some l => if (s.bankState l.bank).isStuck then none else some l.bank
  | none => none

theorem pressureCandidate_some {s : State} {i : SlotNo} {b : BankNo} (h : s.pressureCandidate i = some b) :
    ∃ l, s.store.slots[i] = some l ∧ l.bank = b := by
  unfold pressureCandidate at h
  split at h
  next l hl =>
    split at h
    · cases h
    · exact ⟨l, hl, by simpa using h⟩
  · cases h

theorem pressureCandidate_eq {s : State} {i : SlotNo} {l : Line} (hl : s.store.slots[i] = some l) :
    s.pressureCandidate i = if (s.bankState l.bank).isStuck then none else some l.bank := by
  simp only [pressureCandidate, hl]

/-- No choice is due without pressure, or while a bank holds PRESSURE (R101). -/
theorem pressureChoice_notDue {s : State} (h : s.pressure = false ∨ s.hasPressureBank = true) : s.pressureChoice = s := by
  unfold pressureChoice
  rcases h with h | h <;> simp [h]

theorem pressureChoice_taken {s : State} {b : BankNo} (hp : s.pressure = true) (hn : s.hasPressureBank = false)
    (h : s.store.ageList.findSome? s.pressureCandidate = some b) :
    s.pressureChoice = s.addCause b fun c => { c with pressure := true } := by
  unfold pressureChoice
  rw [if_pos (by simp [hp, hn])]
  dsimp only
  split
  next c hc =>
    cases hc.symm.trans h
    rfl
  next hc => cases hc.symm.trans h

theorem pressureChoice_noBank {s : State} (h : s.store.ageList.findSome? s.pressureCandidate = none) :
    s.pressureChoice = s := by
  unfold pressureChoice
  dsimp only
  split
  · split
    next c hc => cases hc.symm.trans h
    · rfl
  · rfl

/-- A bank that a slot offers holds lines. -/
theorem lineCount_of_candidate {s : State} {b : BankNo} (h : s.store.ageList.findSome? s.pressureCandidate = some b) :
    s.lineCount b ≠ 0 := by
  obtain ⟨i, -, hi⟩ := List.exists_of_findSome?_eq_some h
  obtain ⟨l, hl, rfl⟩ := pressureCandidate_some hi
  exact LineStore.lineCount_ne_zero hl

theorem hasPressureBank_iff (s : State) : s.hasPressureBank = true ↔ ∃ b : BankNo, (s.causes[b]).pressure = true := by
  simp only [hasPressureBank, List.any_eq_true, List.mem_finRange, true_and]

/-- The first slot of the age list whose line's bank is not STUCK gives the choice its bank (R101). -/
theorem candidate_of_first {s : State} {i : SlotNo} {l : Line} (hl : s.store.slots[i] = some l)
    (h : s.FirstInAgeList (fun j => ∃ m, s.store.slots[j] = some m ∧ (s.bankState m.bank).isStuck = false) i) :
    s.store.ageList.findSome? s.pressureCandidate = some l.bank := by
  obtain ⟨older, younger, hlist, ⟨m, hm, hst⟩, hold⟩ := h
  have he : m = l := by simpa using hm.symm.trans hl
  subst he
  have none_older : older.findSome? s.pressureCandidate = none := by
    rw [List.findSome?_eq_none_iff]
    intro j hj
    by_contra hne
    obtain ⟨b, hb⟩ := Option.ne_none_iff_exists'.mp hne
    obtain ⟨x, hx, -⟩ := pressureCandidate_some hb
    refine hold j hj ⟨x, hx, ?_⟩
    rw [pressureCandidate_eq hx] at hb
    cases hs : (s.bankState x.bank).isStuck with
    | false => rfl
    | true => rw [hs] at hb; cases hb
  rw [hlist, List.findSome?_append, none_older, List.findSome?_cons, pressureCandidate_eq hm, hst]
  rfl

/-- After the choice, pressure without a pressure bank means that every line's bank is STUCK (R101, R102). -/
theorem pressureChoice_settles (s : State) (h : s.pressureChoice.pressure = true) :
    s.pressureChoice.hasPressureBank = true ∨ ∀ i ∈ s.pressureChoice.store.ageList, ∀ l,
      s.pressureChoice.store.slots[i] = some l → (s.pressureChoice.bankState l.bank).isStuck = true := by
  cases hf : s.store.ageList.findSome? s.pressureCandidate with
  | none =>
    rw [pressureChoice_noBank hf]
    refine .inr fun i hi l hl => ?_
    have hn := List.findSome?_eq_none_iff.mp hf i hi
    rw [pressureCandidate_eq hl] at hn
    by_contra hs
    simp [hs] at hn
  | some b =>
    have power := PowerEnd.pressureChoice s
    refine .inl ?_
    cases hb : s.hasPressureBank with
    | true => rwa [pressureChoice_notDue (.inr hb)]
    | false =>
      cases hp : s.pressure with
      | false => rw [pressureChoice_notDue (.inl hp), hp] at h; cases h
      | true =>
        rw [pressureChoice_taken hp hb hf, hasPressureBank_iff]
        exact ⟨b, by rw [addCause_causes _ (lineCount_of_candidate hf), updAt_self]⟩

/-! ## What the end of an event makes of causes -/

theorem afterGrant_causes (s pre : State) : (s.afterGrant pre).causes = s.causes := by rw [afterGrant_eq]

theorem afterGrant_store (s pre : State) : (s.afterGrant pre).store = s.store := by rw [afterGrant_eq]

/-- The causes after an event are those that the expiries and the pressure choice left. -/
theorem finish_causes (s pre : State) (released : Bool) :
    (s.finish pre released).causes = (s.untilGrant pre released).causes := by
  rw [finish, afterGrant_causes, (grant_end _).causes]

theorem finish_bankState (s pre : State) (released : Bool) (b : BankNo) :
    (s.finish pre released).bankState b = (s.untilGrant pre released).bankState b := by
  rw [finish, afterGrant_bankState, bankState, (grant_end _).banks, bankState]

theorem hasPressureBank_congr {s t : State} (h : t.causes = s.causes) : t.hasPressureBank = s.hasPressureBank := by
  rw [hasPressureBank, hasPressureBank, h]

theorem finish_pressure (s pre : State) (released : Bool) :
    (s.finish pre released).pressure = (s.untilGrant pre released).pressure := by
  have hr : (s.finish pre released).regs = (s.untilGrant pre released).regs :=
    ((finish_eventEnd s pre released).regs).trans (eventEnd_steps (untilGrant_steps s pre released)).regs.symm
  rw [pressure, pressure, hr, finish, afterGrant_store, (grant_end _).fill]

/-- The lines after an event are those before the grant, but that one may be DRAINING now. -/
theorem finish_line {s pre : State} {released : Bool} {i : SlotNo} {l : Line}
    (h : (s.finish pre released).store.slots[i] = some l) :
    ∃ l', (s.untilGrant pre released).store.slots[i] = some l' ∧ l'.bank = l.bank := by
  rw [finish, afterGrant_store] at h
  rcases (grant_end (s.untilGrant pre released)).slots i with e | ⟨l', hl', -, e⟩
  · exact ⟨l, e ▸ h, rfl⟩
  · rw [e] at h
    cases h
    exact ⟨l', hl', rfl⟩

/-- The age list is that before the grant. -/
theorem finish_ageList (s pre : State) (released : Bool) :
    (s.finish pre released).store.ageList = (s.untilGrant pre released).store.ageList := by
  rw [finish, afterGrant_store]
  exact (QuietEnd.grant _).ageList

/-- A pressure choice that is due has been made at the end of an event (R101). -/
theorem finish_settlesPressure (s pre : State) (released : Bool) (h : (s.finish pre released).pressure = true) :
    (s.finish pre released).hasPressureBank = true ∨ ∀ i ∈ (s.finish pre released).store.ageList, ∀ l,
      (s.finish pre released).store.slots[i] = some l →
        ((s.finish pre released).bankState l.bank).isStuck = true := by
  rw [finish_pressure] at h
  rw [hasPressureBank_congr (finish_causes s pre released), finish_ageList]
  refine (pressureChoice_settles _ h).imp_right fun hall i hi l hl => ?_
  obtain ⟨l', hl', hb⟩ := finish_line hl
  rw [finish_bankState, ← hb]
  exact hall i hi l' hl'

end State

/-! ## The writes of HWM and AGE LIMIT -/

/-- HWM as a write leaves it. -/
def withHwm (s : State) (v : BitVec 16) : State := { s with regs := { s.regs with hwm := v.setWidth 6 } }

/-- AGE LIMIT as a write leaves it. -/
def withAgeLimit (s : State) (v : BitVec 16) : State := { s with regs := { s.regs with ageLimit := v.setWidth 10 } }

theorem exec_hwmWrite {s : State} {v : BitVec 16} (hw : s.awaitRise = false) (h1 : 1 ≤ v.toNat) (h2 : v.toNat ≤ 32) :
    exec (.hwmWrite v) s = .next (((withHwm s v).finish s false).replyWrite .done) := by
  show s.onFrame _ = _
  rw [State.onFrame_taken hw, State.writeHwm, State.writeInRange, if_pos (by simp [h1, h2])]
  rfl

theorem exec_hwmWrite_badarg {s : State} {v : BitVec 16} (hw : s.awaitRise = false) (h : v.toNat = 0 ∨ 32 < v.toNat) :
    exec (.hwmWrite v) s = .next (s.replyWrite .badarg) := by
  show s.onFrame _ = _
  have hn : ¬(decide (1 ≤ v.toNat) && decide (v.toNat ≤ 32)) = true := by
    simp only [Bool.and_eq_true, decide_eq_true_eq]
    omega
  rw [State.onFrame_taken hw, State.writeHwm, State.writeInRange, if_neg hn]

theorem exec_ageLimitWrite {s : State} {v : BitVec 16} (hw : s.awaitRise = false) (h : v.toNat < 1024) :
    exec (.ageLimitWrite v) s = .next (((withAgeLimit s v).finish s false).replyWrite .done) := by
  show s.onFrame _ = _
  rw [State.onFrame_taken hw, State.writeAgeLimit, State.writeInRange, if_pos (by simp; omega)]
  rfl

theorem exec_ageLimitWrite_badarg {s : State} {v : BitVec 16} (hw : s.awaitRise = false) (h : 1024 ≤ v.toNat) :
    exec (.ageLimitWrite v) s = .next (s.replyWrite .badarg) := by
  show s.onFrame _ = _
  rw [State.onFrame_taken hw, State.writeAgeLimit, State.writeInRange, if_neg (by simp; omega)]

/-- Before the grant a write of HWM makes the pressure choice and nothing else. -/
theorem withHwm_untilGrant (s : State) (v : BitVec 16) :
    (withHwm s v).untilGrant s false = (withHwm s v).pressureChoice := by
  rw [State.untilGrant, State.runQueue_unmoved (pre := s) (s := withHwm s v) rfl rfl rfl rfl,
    State.takeAgeExpiries_none (pre := s) (s := withHwm s v) fun _ h => h]

theorem withHwm_pressure (s : State) (v : BitVec 16) (h : v.toNat ≤ 32) :
    (withHwm s v).pressure = decide (v.toNat ≤ s.store.fill) := by
  have hv : (v.setWidth 6).toNat = v.toNat := by
    rw [BitVec.toNat_setWidth]
    omega
  show decide ((v.setWidth 6).toNat ≤ s.store.fill) = _
  rw [hv]

/-- Settles O51: the write of HWM by its pressure choice, the write of AGE LIMIT by its age expiries. -/
theorem storeLimitsApplyAtTheWrite : Obligations.StoreLimitsApplyAtTheWrite := by
  intro s v hw
  have six : v.extractLsb' 0 6 = v.setWidth 6 := BitVec.eq_of_toNat_eq (by simp)
  have ten : v.extractLsb' 0 10 = v.setWidth 10 := BitVec.eq_of_toNat_eq (by simp)
  rw [six, ten]
  refine ⟨fun h => exec_hwmWrite_badarg hw h, fun h1 h2 => ⟨_, exec_hwmWrite hw h1 h2, rfl, ?_, ?_, ?_, ?_⟩,
    fun h => exec_ageLimitWrite_badarg hw h, fun h => ⟨_, exec_ageLimitWrite hw h, rfl, ?_, ?_⟩⟩
  · exact (finish_eventEnd (withHwm s v) s false).regs
  · intro i l hv hn hl hfirst b
    have hp : (withHwm s v).pressure = true := by rw [withHwm_pressure s v h2]; simpa using hv
    have hc : (withHwm s v).store.ageList.findSome? (withHwm s v).pressureCandidate = some l.bank :=
      State.candidate_of_first (s := withHwm s v) hl hfirst
    have hcauses : ((withHwm s v).finish s false).causes =
        updAt s.causes l.bank fun c => { c with pressure := true } := by
      rw [State.finish_causes, withHwm_untilGrant, State.pressureChoice_taken hp hn hc,
        State.addCause_causes _ (State.lineCount_of_candidate hc)]
      rfl
    show ((withHwm s v).finish s false).causes[b] = _
    rw [hcauses]
    by_cases e : l.bank = b
    · subst e
      rw [updAt_self, beq_self_eq_true]
    · have hb : (s.causes[b]).pressure = false := by
        by_contra hx
        rw [(State.hasPressureBank_iff s).2 ⟨b, by simpa using hx⟩] at hn
        cases hn
      rw [updAt_ne _ _ e, beq_eq_false_iff_ne.2 (Ne.symm e), ← hb]
  · intro h
    show ((withHwm s v).finish s false).causes = _
    rw [State.finish_causes, withHwm_untilGrant, State.pressureChoice_notDue]
    · rfl
    · exact h.imp_left fun h => by rw [withHwm_pressure s v h2]; simpa using h
  · exact State.finish_settlesPressure (withHwm s v) s false
  · exact (finish_eventEnd (withAgeLimit s v) s false).regs
  · intro b hb hb'
    show (((withAgeLimit s v).finish s false).causes[b]).age = true
    rw [State.finish_causes, State.untilGrant,
      State.runQueue_unmoved (pre := s) (s := withAgeLimit s v) rfl rfl rfl rfl]
    exact ((PowerEnd.pressureChoice _).causes b).1 (State.takeAgeExpiries_age hb hb')

end Sys2Proof.Machine

/-! DISCARD gives up the lines of a STUCK bank (R94). -/

namespace Sys2Proof.Machine

/-- Emptying the places that count takes their number off an occupied count. -/
theorem countP_emptied {α : Type} {p : Option α → Bool} (hp : ∀ o, p o = true → o.isSome = true) (l : List (Option α)) :
    (l.map fun o => if p o then none else o).countP Option.isSome + l.countP p = l.countP Option.isSome := by
  induction l with
  | nil => rfl
  | cons o rest ih =>
    have ho := hp o
    simp only [List.map_cons, List.countP_cons]
    cases h : p o with
    | false =>
      simp only [Bool.false_eq_true, if_false]
      omega
    | true =>
      simp only [if_true, ho h, Option.isSome_none, Bool.false_eq_true, if_false]
      omega

namespace LineStore

theorem discard_lineCount (st : LineStore) (b : BankNo) : (st.discard b).lineCount b = 0 := by
  rw [lineCount_eq_zero_iff]
  intro i
  rw [discard_slot]
  cases h : slotOfBank b st.slots[i] with
  | true => rfl
  | false => simpa using h

/-- DISCARD lowers the fill level by the bank's line count (R16, R21). -/
theorem discard_fill (st : LineStore) (b : BankNo) : (st.discard b).fill + st.lineCount b = st.fill := by
  have hs : (st.discard b).slots.toList = st.slots.toList.map fun o => if slotOfBank b o then none else o := by
    apply List.ext_getElem
    · simp
    · intro k hk hk'
      simp [discard]
  have hp : ∀ o, slotOfBank b o = true → o.isSome = true := fun o => by cases o <;> simp [slotOfBank]
  rw [fill, hs]
  exact countP_emptied hp _

end LineStore

/-- A fault is handed to the log as it stands, whatever else the state holds. -/
theorem handFault_faults_congr {s u : State} (rep : FaultReport) (hf : u.faults = s.faults) (hc : u.clock = s.clock) :
    (u.handFault rep).faults = (s.handFault rep).faults := by
  by_cases h : s.faults.records.length < Config.logCapacity
  · rw [State.handFault_added s rep h, State.handFault_added u rep (by rw [hf]; exact h), hf, hc]
  · rw [State.handFault_dropped s rep h, State.handFault_dropped u rep (by rw [hf]; exact h), hf]

/-! ## After a freeing of lines (R104, R176) -/

theorem afterFreeing_causes (s : State) (b : BankNo) : (s.afterFreeing b).causes =
    if s.lineCount b = 0 then updAt s.causes b fun _ => DrainCauses.none else s.causes := by
  unfold State.afterFreeing
  dsimp only
  split <;> split <;> rfl

theorem afterFreeing_mode (s : State) (b : BankNo) :
    (s.afterFreeing b).mode = if s.mode = .recover ∧ s.store.fill = 0 then .normal else s.mode := by
  have hm : (if s.lineCount b = 0 then s.setCauses b fun _ => DrainCauses.none else s).mode = s.mode := by split <;> rfl
  have hs : (if s.lineCount b = 0 then s.setCauses b fun _ => DrainCauses.none else s).store = s.store := by split <;> rfl
  unfold State.afterFreeing
  dsimp only
  rw [hm, hs]
  split
  · rfl
  · exact hm

/-! ## A bank that has given up its lines -/

/-- A bank that holds no lines, has no drain cause, and in whose state no line is allocated. -/
structure GivenUp (b : BankNo) (s : State) : Prop where
  closed : (s.bankState b).mayAllocate = false
  lines : s.lineCount b = 0
  causes : s.causes[b] = DrainCauses.none

theorem GivenUp.of_grant {b : BankNo} {s t : State} (h : GivenUp b s) (g : GrantEnd s t) : GivenUp b t :=
  ⟨by rw [State.bankState, g.banks]; exact h.closed, (g.lines b).trans h.lines, by rw [g.causes]; exact h.causes⟩

/-- No step of an event's end takes a bank out of the states without allocation, or gives it a line or a cause. -/
theorem GivenUp.step {b : BankNo} {s t : State} (h : GivenUp b s) (hst : EndStep s t) : GivenUp b t := by
  cases hst with
  | merge i r hj =>
    exact ⟨h.closed, (s.store.onLine_lineCount i _ (fun l => (mergedLine_kept r l).addr) b).trans h.lines, h.causes⟩
  | allocate i r hj =>
    have hb : (r.bank == b) = false := by
      rw [beq_eq_false_iff_ne]
      rintro rfl
      have := hj.2.2.1
      rw [h.closed] at this
      cases this
    refine ⟨h.closed, ?_, h.causes⟩
    show (s.store.allocate i r s.clock.msTime).lineCount b = 0
    rw [LineStore.allocate_lineCount hj.2.1, hb]
    exact h.lines
  | wake c o hf hc =>
    refine ⟨?_, by rw [State.lineCount, State.wake_store]; exact h.lines, by rw [State.wake_causes]; exact h.causes⟩
    by_cases e : c = b
    · subst e
      have ho : o = .off := by
        have := h.closed
        rw [hc] at this
        cases o with
        | off => rfl
        | retain => cases this
      subst ho
      obtain ⟨-, -, -, -, -, -, hw⟩ := wake_record s c .off
      rcases hw with e | e | e <;> rw [State.bankState, e] <;> rfl
    · rw [State.bankState, State.wake_other s o e]
      exact h.closed
  | pendWake c o hc =>
    refine ⟨?_, h.lines, h.causes⟩
    by_cases e : c = b
    · subst e
      rw [State.bankState, State.setBank_same]
      exact h.closed
    · rw [State.bankState, State.setBank_other _ _ e]
      exact h.closed
  | cause c f hm hk hl hp =>
    refine ⟨h.closed, h.lines, ?_⟩
    rw [State.setCauses_causes, updAt_ne _ _ fun e => hl (by rw [e]; exact h.lines)]
    exact h.causes
  | grantEntry k hr hf hk => exact h.of_grant (grantEntry_end hk)
  | grantDrain i cls hr hf hi => exact h.of_grant (grantDrain_end cls hi)
  | timers c =>
    refine ⟨?_, h.lines, h.causes⟩
    by_cases e : c = b
    · subst e
      rw [State.bankState, State.refreshTimersOf, State.setBank_same]
      exact h.closed
    · rw [State.bankState, State.refreshTimersOf, State.setBank_other _ _ e]
      exact h.closed
  | _ => exact ⟨h.closed, h.lines, h.causes⟩

theorem GivenUp.steps {b : BankNo} {s t : State} (h : GivenUp b s) (hst : EndSteps s t) : GivenUp b t := by
  induction hst with
  | refl => exact h
  | tail _ hs ih => exact ih.step hs

/-! ## A descent toward OFF -/

theorem wake_lost (s : State) (b : BankNo) (o : Rest) (h : s.banks[b].lost = true) : (s.wake b o).banks[b].lost = true := by
  obtain ⟨-, -, hl, -⟩ := wake_record s b o
  exact hl h

/-- What a settle of a descent makes of its bank: at rest, or on its way up again (R79). -/
theorem settleDescending_record (s : State) (b : BankNo) (o : Rest) :
    (s.banks[b].lost = true → (s.settleDescending b o).banks[b].lost = true) ∧
      ((s.settleDescending b o).bankState b = o.state ∨ (s.settleDescending b o).bankState b = .waking o ∨
        (s.settleDescending b o).bankState b = .active ∨ (s.settleDescending b o).bankState b = .clearing o) := by
  unfold State.settleDescending
  dsimp only
  split
  · refine ⟨fun h => wake_lost _ b o (by rw [State.setBank_same]; exact h), .inr ?_⟩
    obtain ⟨-, -, -, -, -, -, hw⟩ := wake_record
      (s.setBank b fun k => { k with state := o.state, settleTimer := .stopped, pendingWake := false }) b o
    exact hw
  · refine ⟨fun h => by rw [State.setBank_same]; exact h, .inl ?_⟩
    rw [State.bankState, State.setBank_same]

/-- A bank that settles without demand rests at its target (R79). -/
theorem settleDescending_rests {s : State} {b : BankNo} {o : Rest}
    (h : (s.banks[b].pendingWake || s.wakeDemand b) = false) : (s.settleDescending b o).banks[b] =
      { s.banks[b] with state := o.state, settleTimer := .stopped, pendingWake := false } := by
  unfold State.settleDescending
  dsimp only
  rw [h]
  exact State.setBank_same _ _ _

/-- A descent keeps LOST, and leaves its bank where no line is allocated when its target is OFF. -/
theorem descend_off_record (s : State) (b : BankNo) :
    (s.banks[b].lost = true → (s.descend b .off).banks[b].lost = true) ∧
      ((s.descend b .off).bankState b).mayAllocate = false := by
  unfold State.descend
  dsimp only
  split
  · obtain ⟨hl, hb⟩ := settleDescending_record (s.requestLevel b .off (.descending .off)) b .off
    refine ⟨fun h => hl (by rw [State.requestLevel_banks, updAt_self]; exact h), ?_⟩
    rcases hb with e | e | e | e <;> exact (congrArg BankState.mayAllocate e).trans rfl
  · simp only [State.bankState, State.requestLevel_banks, updAt_self]
    exact ⟨id, rfl⟩

/-- A bank whose lines already report settled at OFF, without demand, is OFF at once (R74, R79). -/
theorem descend_off_settled {s : State} {b : BankNo} (h : (s.banks[b].settled && s.banks[b].reported == .off) = true)
    (hd : s.wakeDemand b = false) : (s.descend b .off).bankState b = .off ∧ (s.descend b .off).banks[b].request = .off ∧
      (s.descend b .off).banks[b].settleTimer = .stopped := by
  have hk : (s.requestLevel b .off (.descending .off)).banks[b] =
      { s.banks[b] with state := .descending .off, request := .off, settleTimer := .start s.regs.settleLimit.toNat,
                        idleTimer := .stopped, offTimer := .stopped, pendingWake := false } := by
    rw [State.requestLevel_banks, updAt_self]
  have ha : (s.requestLevel b .off (.descending .off)).banks[b].atRequest = true := by rw [hk]; exact h
  have he : s.descend b .off = (s.requestLevel b .off (.descending .off)).settleDescending b .off := by
    unfold State.descend
    exact if_pos ha
  have hr := settleDescending_rests (s := s.requestLevel b .off (.descending .off)) (b := b) (o := .off) (by rw [hk]; exact hd)
  rw [he, State.bankState, hr]
  exact ⟨rfl, by rw [hk], rfl⟩

/-! ## DISCARD -/

/-- The state from which DISCARD lowers its bank, with the store `st` that it leaves: record handed over, LOST set (R94). -/
def discarded (s : State) (st : LineStore) (b : BankNo) : State :=
  (({ s with store := st }.afterFreeing b).handFault
    ⟨.linesDiscarded, b, none, none, none, some (s.lineCount b)⟩).setBank b fun k => { k with lost := true }

theorem discardBank_eq (s : State) (b : BankNo) :
    s.discardBank b = (discarded s (s.store.discard b) b).descend b .off := rfl

section
variable (s : State) (st : LineStore) (b : BankNo)

theorem discarded_store : (discarded s st b).store = st := by simp [discarded]

theorem discarded_queue : (discarded s st b).queue = s.queue := by simp [discarded]

theorem discarded_clear : (discarded s st b).clear = s.clear := by simp [discarded]

theorem discarded_regs : (discarded s st b).regs = s.regs := by simp [discarded]

theorem discarded_bank : (discarded s st b).banks[b] = { s.banks[b] with lost := true } := by
  rw [discarded, State.setBank_same]
  simp

theorem discarded_causes (h : st.lineCount b = 0) : (discarded s st b).causes[b] = DrainCauses.none := by
  have hl : State.lineCount { s with store := st } b = 0 := h
  have hc : (discarded s st b).causes = updAt s.causes b fun _ => DrainCauses.none := by
    simp only [discarded, State.setBank_causes, State.handFault_causes, afterFreeing_causes, hl, if_true]
  rw [hc, updAt_self]

theorem discarded_faults : (discarded s st b).faults =
    (s.handFault ⟨.linesDiscarded, b, none, none, none, some (s.lineCount b)⟩).faults :=
  handFault_faults_congr _ (State.afterFreeing_faults _ b) (State.afterFreeing_clock _ b)

theorem discarded_mode : (discarded s st b).mode = if s.mode = .recover ∧ st.fill = 0 then .normal else s.mode := by
  simp only [discarded, State.setBank_mode, State.handFault_mode, afterFreeing_mode]

end

theorem discardBank_store (s : State) (b : BankNo) : (s.discardBank b).store = s.store.discard b := by
  rw [discardBank_eq, State.descend_store, discarded_store]

theorem discardBank_queue (s : State) (b : BankNo) : (s.discardBank b).queue = s.queue := by
  rw [discardBank_eq, State.descend_queue, discarded_queue]

theorem discardBank_givenUp (s : State) (b : BankNo) : GivenUp b (s.discardBank b) where
  closed := by
    rw [discardBank_eq]
    exact (descend_off_record _ b).2
  lines := by rw [State.lineCount, discardBank_store, s.store.discard_lineCount b]
  causes := by rw [discardBank_eq, State.descend_causes, discarded_causes _ _ _ (s.store.discard_lineCount b)]

theorem discardBank_mode (s : State) (b : BankNo) : (s.discardBank b).mode =
    if s.mode = .recover ∧ s.store.fill = s.lineCount b then .normal else s.mode := by
  have hf := s.store.discard_fill b
  have hz : (s.store.discard b).fill = 0 ↔ s.store.fill = s.lineCount b := by
    rw [State.lineCount]
    omega
  rw [discardBank_eq, State.descend_mode, discarded_mode]
  simp only [hz]

/-- An accepted DISCARD. -/
theorem exec_discardOrder {s : State} {bank : Byte} {b : BankNo} (hw : s.awaitRise = false) (hb : bank.toNat = b.val)
    (hf : s.fitted b = true) (hs : (s.bankState b).isStuck = true) :
    exec (.discardOrder bank) s = .next (((s.discardBank b).finish s false).replyOrder .done) := by
  have he : eighth bank.toNat = some b := by simp [eighth, hb]
  show s.onFrame (.next (s.order bank s.orderDiscard)) = _
  simp only [State.onFrame_taken hw, State.order, he, hf, if_true, State.orderDiscard, hs, State.accept]

/-- After a DISCARD whose lines do not report OFF, the bank descends (R94, R74). -/
theorem discard_descends {s : State} {b : BankNo} {t : State} (ends : EventEnd (s.discardBank b) t)
    (hu : (s.banks[b].settled && s.banks[b].reported == .off) = false) :
    t.bankState b = .descending .off ∧ t.banks[b].request = .off ∧
      t.banks[b].settleTimer = .running s.regs.settleLimit.toNat 0 := by
  have hbank := discarded_bank s (s.store.discard b) b
  have hd := State.descend_bank (discarded s (s.store.discard b) b) b .off (by rw [hbank]; exact hu)
  rw [← discardBank_eq, hbank, discarded_regs] at hd
  obtain ⟨hk, -⟩ := (ends.bank b).descending .off (by rw [hd])
  rw [hd] at hk
  rw [State.bankState, hk]
  exact ⟨rfl, rfl, rfl⟩

/-- Where they do, and nothing demands the bank, it is OFF (R74, R79). -/
theorem discard_settles {s : State} {b : BankNo} {t : State} (tail : TailEnd (s.discardBank b) t)
    (gone : GivenUp b t) (hu : (s.banks[b].settled && s.banks[b].reported == .off) = true) (hq : s.queue = [])
    (hc : s.clear.wanted[b] = false) (hn : b ∉ s.clear.queue) :
    t.bankState b = .off ∧ t.banks[b].request = .off ∧ t.banks[b].settleTimer = .stopped := by
  have hdemand : (discarded s (s.store.discard b) b).wakeDemand b = false := by
    simp only [State.wakeDemand, State.hasBankWaiter, State.drainWanted, discarded_queue, discarded_clear, hq, hc,
      discarded_causes s _ b (s.store.discard_lineCount b)]
    simpa [DrainCauses.any, DrainCauses.none] using hn
  have settled := descend_off_settled (by rw [discarded_bank]; exact hu) hdemand
  rw [← discardBank_eq, State.bankState] at settled
  rcases tail.moved b with hm | ⟨-, hm⟩
  · rw [State.bankState, hm.state, hm.request, hm.settleTimer]
    exact settled
  · rw [gone.causes] at hm
    cases hm

/-- Settles O58, from what the discard leaves and what the end of the event keeps of it. -/
theorem discardGivesUpTheLines : Obligations.DiscardGivesUpTheLines := by
  intro s bank b hw hb hf hs
  have ends := finish_eventEnd (s.discardBank b) s false
  have gone := (discardBank_givenUp s b).steps (State.finish_steps _ s false)
  have tail := fun hq => finish_tail (pre := s) (released := false)
    (State.runQueue_empty false ((discardBank_queue s b).trans hq))
  have lost : (s.discardBank b).banks[b].lost = true := by
    rw [discardBank_eq]
    exact (descend_off_record _ b).1 (by rw [discarded_bank])
  have faults : (s.discardBank b).faults =
      (s.handFault ⟨.linesDiscarded, b, none, none, none, some (s.lineCount b)⟩).faults := by
    rw [discardBank_eq, State.descend_faults, discarded_faults]
  have drained : (s.discardBank b).store.drainedLines = s.store.drainedLines := by
    rw [discardBank_store, LineStore.discard]
  refine ⟨_, exec_discardOrder hw hb hf hs, rfl, ?_⟩
  generalize (s.discardBank b).finish s false = t at ends gone tail
  exact ⟨(ends.bank b).lost lost, discard_descends (t := t) ends,
    fun hu hq hc hn => discard_settles (t := t) (tail hq) gone hu hq hc hn,
    gone.lines, gone.causes, ends.faults.trans faults, ends.drainedLines.trans drained,
    ends.mode.trans (discardBank_mode s b)⟩

end Sys2Proof.Machine

/-! Power-on reset gives every block its power-on values and samples the lines (R26, R96, R184, R189). -/

namespace Sys2Proof.Machine

/-- While the port waits for the rise of MCS, the frame of a management command has no effect (R189). -/
theorem exec_waiting {c : Instr} {s : State} (hf : c.isFrameCommand = true) (hc : c.wellFormed = true)
    (hw : s.awaitRise = true) : exec c s = .next s := by
  cases c with
  | requestTaken _ | completion _ _ _ | accessTimeout | settleTimeout _ | statusLineChange _ _ _ | idleTimerExpiry _
  | offTimerExpiry _ | ageExpiry _ | supwarnAssertion | supwarnNegation | fltpassAssertion | fltpassNegation
  | resetnAssertion | resetnNegation | powerOnReset | faultPopRemoval _ | millisecondCounterStep => cases hf
  | invalidCommand frame =>
    have hn : namesNoCommand frame = true := hc
    simp only [exec, execInvalidCommand, hn, if_true, State.onFrame_waiting hw]
  | _ => exact State.onFrame_waiting hw _

/-! ## The sampling of the status lines -/

/-- Whether a bank's lines report settled at OFF. -/
def restsAtOff (s : State) (b : BankNo) : Bool := s.pins.pset[b] && s.pins.pstat[b] == .off

/-- A bank's record after power-on reset (R96). -/
def sampledRecord (s : State) (b : BankNo) : BankRecord :=
  { BankRecord.reset with
    state := if restsAtOff s b then .off else .stuck .off
    reported := s.pins.pstat[b]
    settled := s.pins.pset[b] }

/-- The report of a bank that is not settled at OFF (R96, Table 8-2). -/
def restReport (b : BankNo) : FaultReport := ⟨.unsolicitedChange, b, none, none, none, some 0⟩

/-- The state after power-on reset with other bank records and another log. -/
def powerOnWith (s : State) (banks : Vector BankRecord 8) (faults : FaultLog) : State :=
  { s.powerOn with banks := banks, faults := faults }

/-- Bank records and log after power-on reset once the lines of the banks `done` have been sampled. -/
structure Sampled (s : State) (done : List BankNo) (banks : Vector BankRecord 8) (faults : FaultLog) : Prop where
  bank : ∀ b : BankNo, banks[b] = if b ∈ done then sampledRecord s b else BankRecord.reset
  hold : ∀ b : BankNo, faults.hold[b] = (decide (b ∈ done) && !restsAtOff s b)
  unlogged : faults.unlogged = FaultLog.reset.unlogged
  overflow : faults.overflow = 0
  nextSeq : faults.nextSeq = BitVec.ofNat 16 faults.records.length
  reports : faults.records.map (fun r => r.report) = (done.filter fun b => !restsAtOff s b).map restReport

theorem updAt_fixed {α : Type} {n : Nat} (v : Vector α n) (i : Fin n) (f : α → α) (h : f v[i] = v[i]) :
    updAt v i f = v := by
  apply Vector.ext
  intro k hk
  rw [updAt_getElem]
  split
  next e => subst e; exact h
  · rfl

section
variable (s : State) (banks : Vector BankRecord 8) (faults : FaultLog)

theorem powerOnWith_fitted (b : BankNo) : (powerOnWith s banks faults).fitted b = true := decide_eq_true b.isLt

theorem powerOnWith_slot (i : SlotNo) : (powerOnWith s banks faults).store.slots[i] = none := State.reset_slot i

theorem powerOnWith_lineCount (b : BankNo) : (powerOnWith s banks faults).lineCount b = 0 :=
  (LineStore.lineCount_eq_zero_iff _ b).2 fun i => by rw [powerOnWith_slot]; rfl

theorem abandonClear_powerOnWith (b : BankNo) :
    (powerOnWith s banks faults).abandonClear b = powerOnWith s banks faults := by
  have hw : updAt (powerOnWith s banks faults).clear.wanted b (fun _ => false) = (powerOnWith s banks faults).clear.wanted :=
    updAt_fixed _ _ _ (by simp [powerOnWith, State.powerOn, State.reset, ClearEngine.reset])
  unfold State.abandonClear
  dsimp only
  rw [hw]
  rfl

theorem withdrawPressure_powerOnWith (b : BankNo) :
    (powerOnWith s banks faults).setCauses b (fun c => { c with pressure := false }) = powerOnWith s banks faults := by
  have hc : updAt State.reset.causes b (fun c => { c with pressure := false }) = State.reset.causes :=
    updAt_fixed _ _ _ (by rw [State.reset_cause]; rfl)
  exact congrArg (fun causes => { powerOnWith s banks faults with causes := causes }) hc

/-- Without clears, causes and entries, a bank that becomes STUCK changes its record alone. -/
theorem makeStuck_powerOnWith (b : BankNo) : (powerOnWith s banks faults).makeStuck b =
    powerOnWith s ((powerOnWith s banks faults).makeStuck b).banks faults := by
  unfold State.makeStuck
  split
  · have hb : ∀ f, (powerOnWith s banks faults).setBank b f = powerOnWith s (updAt banks b f) faults := fun _ => rfl
    dsimp only
    rw [hb, abandonClear_powerOnWith, withdrawPressure_powerOnWith]
    rfl
  · rfl

end

theorem handFault_eq (s : State) (rep : FaultReport) : s.handFault rep = { s with faults := (s.handFault rep).faults } := by
  unfold State.handFault
  dsimp only
  split <;> rfl

namespace Sampled

variable {s : State} {done : List BankNo} {banks : Vector BankRecord 8} {faults : FaultLog}

theorem start (s : State) : Sampled s [] State.reset.banks FaultLog.reset where
  bank := fun b => State.reset_bank b
  hold := fun b => State.reset_hold b
  unlogged := rfl
  overflow := rfl
  nextSeq := rfl
  reports := rfl

/-- The records of the other banks stand when one more bank is sampled. -/
theorem bank_step (h : Sampled s done banks faults) {b : BankNo} {banks' : Vector BankRecord 8}
    (hb : banks'[b] = sampledRecord s b) (ho : ∀ c : BankNo, b ≠ c → banks'[c] = banks[c]) (c : BankNo) :
    banks'[c] = if c ∈ done ++ [b] then sampledRecord s c else BankRecord.reset := by
  by_cases e : b = c
  · subst e
    simpa using hb
  · rw [ho c e, h.bank c]
    simp [Ne.symm e]

/-- A bank that is settled at OFF only takes its lines into its record. -/
theorem step_rests (h : Sampled s done banks faults) {b : BankNo} {banks' : Vector BankRecord 8}
    (hr : restsAtOff s b = true) (hb : banks'[b] = sampledRecord s b)
    (ho : ∀ c : BankNo, b ≠ c → banks'[c] = banks[c]) : Sampled s (done ++ [b]) banks' faults where
  bank := h.bank_step hb ho
  hold := fun c => by
    rw [h.hold c]
    by_cases e : c = b
    · subst e
      simp [hr]
    · simp [e]
  unlogged := h.unlogged
  overflow := h.overflow
  nextSeq := h.nextSeq
  reports := by simp [h.reports, hr]

/-- The log has room for the report of every bank. -/
theorem records_le (h : Sampled s done banks faults) : faults.records.length ≤ done.length := by
  have := congrArg List.length h.reports
  rw [List.length_map, List.length_map] at this
  exact this ▸ List.length_filter_le _ _

/-- A bank that is not has an unsolicited change (R96). -/
theorem step_fails (h : Sampled s done banks faults) {b : BankNo} {banks' : Vector BankRecord 8} {faults' : FaultLog}
    {record : FaultRecord} (hr : restsAtOff s b = false) (hrep : record.report = restReport b)
    (hf : faults' = { faults with
      records := faults.records ++ [record], nextSeq := faults.nextSeq + 1, hold := updAt faults.hold b fun _ => true })
    (hb : banks'[b] = sampledRecord s b) (ho : ∀ c : BankNo, b ≠ c → banks'[c] = banks[c]) :
    Sampled s (done ++ [b]) banks' faults' := by
  subst hf
  refine ⟨h.bank_step hb ho, fun c => ?_, h.unlogged, h.overflow, ?_, ?_⟩
  · by_cases e : b = c
    · subst e
      rw [updAt_self]
      simp [hr]
    · rw [updAt_ne _ _ e, h.hold c]
      simp [Ne.symm e]
  · show faults.nextSeq + 1 = BitVec.ofNat 16 (faults.records ++ [record]).length
    rw [h.nextSeq, List.length_append, List.length_singleton, BitVec.ofNat_add]
    rfl
  · rw [List.map_append, h.reports]
    simp [hr, hrep]

/-- One more bank is sampled. -/
theorem step (h : Sampled s done banks faults) {b : BankNo} (hb : b ∉ done) (hl : done.length < 8) :
    ∃ banks' faults', (powerOnWith s banks faults).sampleAtRest b = powerOnWith s banks' faults' ∧
      Sampled s (done ++ [b]) banks' faults' := by
  have hk : banks[b] = BankRecord.reset := by rw [h.bank b, if_neg hb]
  have hs : (powerOnWith s banks faults).sampleLines b =
      powerOnWith s (updAt banks b fun k => { k with reported := s.pins.pstat[b], settled := s.pins.pset[b] }) faults := rfl
  generalize hbanks : (updAt banks b fun k => { k with reported := s.pins.pstat[b], settled := s.pins.pset[b] }) = read at hs
  have hread : read[b] = { BankRecord.reset with reported := s.pins.pstat[b], settled := s.pins.pset[b] } := by
    rw [← hbanks, updAt_self, hk]
  have hother : ∀ c : BankNo, b ≠ c → read[c] = banks[c] := fun c e => by rw [← hbanks, updAt_ne _ _ e]
  have ha : read[b].atRequest = restsAtOff s b := by rw [hread]; rfl
  unfold State.sampleAtRest
  dsimp only
  rw [hs]
  cases hr : restsAtOff s b with
  | true =>
    rw [if_pos (show (powerOnWith s read faults).banks[b].atRequest = true from ha.trans hr)]
    exact ⟨read, faults, rfl, h.step_rests hr (by rw [hread, sampledRecord, hr]; rfl) hother⟩
  | false =>
    have hn : ¬(powerOnWith s read faults).banks[b].atRequest = true := by
      show ¬read[b].atRequest = true
      rw [ha, hr]
      exact Bool.false_ne_true
    have hstate : (powerOnWith s read faults).bankState b = .off := by
      show read[b].state = .off
      rw [hread]
      rfl
    have hbank := State.makeStuck_bank (powerOnWith s read faults) b (powerOnWith_fitted ..) (by rw [hstate]; rfl)
    have hrest : ∀ c : BankNo, b ≠ c → ((powerOnWith s read faults).makeStuck b).banks[c] = banks[c] := fun c e =>
      (State.makeStuck_other _ e).trans (hother c e)
    have hrep : (powerOnWith s read faults).countedFault .unsolicitedChange b = restReport b := by
      rw [State.countedFault, powerOnWith_lineCount]
      rfl
    rw [if_neg hn, State.failBank, hrep, makeStuck_powerOnWith, handFault_eq]
    refine ⟨_, _, rfl, h.step_fails hr rfl (State.handFault_added _ _ ?_) ?_ hrest⟩
    · exact Nat.lt_of_le_of_lt h.records_le hl
    · refine hbank.trans ?_
      rw [hstate]
      show ({ read[b] with state := .stuck .off, settleTimer := .stopped, idleTimer := .stopped, offTimer := .stopped,
                           pendingWake := false } : BankRecord) = _
      rw [hread, sampledRecord, hr]
      rfl

/-- Every bank is sampled. -/
theorem all (rest : List BankNo) : ∀ (done : List BankNo) (banks : Vector BankRecord 8) (faults : FaultLog),
    Sampled s done banks faults → (done ++ rest).Nodup → (done ++ rest).length ≤ 8 →
    ∃ banks' faults', rest.foldl State.sampleAtRest (powerOnWith s banks faults) = powerOnWith s banks' faults' ∧
      Sampled s (done ++ rest) banks' faults' := by
  induction rest with
  | nil =>
    intro done banks faults h _ _
    exact ⟨banks, faults, rfl, by rwa [List.append_nil]⟩
  | cons b rest ih =>
    intro done banks faults h hn hl
    have hb : b ∉ done := fun hm => List.disjoint_of_nodup_append hn hm List.mem_cons_self
    obtain ⟨banks', faults', he, h'⟩ := h.step hb (by simp at hl; omega)
    rw [List.foldl_cons, he]
    have happ : done ++ b :: rest = done ++ [b] ++ rest := by simp
    rw [happ] at hn hl ⊢
    exact ih _ banks' faults' h' hn hl

end Sampled

/-! ## The end of the reset -/

/-- The part at the end of power-on reset: nothing follows the sampling but the mode. -/
def poweredOn (s : State) (banks : Vector BankRecord 8) (faults : FaultLog) : State :=
  { powerOnWith s banks faults with mode := if s.pins.supwarn then .warn else .normal }

theorem sampleInputs_powerOn (s : State) : ∃ banks faults, s.powerOn.sampleInputs = poweredOn s banks faults ∧
    Sampled s (List.finRange 8) banks faults := by
  obtain ⟨banks, faults, he, h⟩ := Sampled.all (List.finRange 8) [] _ _ (Sampled.start s) (List.nodup_finRange 8)
    (by simp)
  refine ⟨banks, faults, ?_, h⟩
  have he' : (List.finRange 8).foldl State.sampleAtRest s.powerOn = powerOnWith s banks faults := he
  have hwarn : ∀ b : BankNo, State.addCause { powerOnWith s banks faults with mode := .warn } b
      (fun c => { c with warn := true }) = { powerOnWith s banks faults with mode := .warn } := fun b =>
    if_pos (powerOnWith_lineCount s banks faults b)
  have hfold : ∀ l : List BankNo, l.foldl (fun u b => State.addCause u b fun c => { c with warn := true })
      { powerOnWith s banks faults with mode := .warn } = { powerOnWith s banks faults with mode := .warn } := by
    intro l
    induction l with
    | nil => rfl
    | cons b l ih => rw [List.foldl_cons, hwarn, ih]
  unfold State.sampleInputs
  dsimp only
  rw [he']
  cases hp : s.pins.supwarn with
  | false => rw [if_neg (by rw [show (powerOnWith s banks faults).pins.supwarn = s.pins.supwarn from rfl, hp]; decide),
      poweredOn, hp]; rfl
  | true =>
    rw [if_pos (show (powerOnWith s banks faults).pins.supwarn = true from hp), State.enterWarn, hfold, poweredOn, hp]
    rfl

section
variable (s : State) (banks : Vector BankRecord 8) (faults : FaultLog)

theorem poweredOn_slot (i : SlotNo) : (poweredOn s banks faults).store.slots[i] = none := State.reset_slot i

theorem poweredOn_lineCount (b : BankNo) : (poweredOn s banks faults).lineCount b = 0 :=
  powerOnWith_lineCount s banks faults b

theorem poweredOn_fill : (poweredOn s banks faults).store.fill = 0 :=
  (LineStore.fill_eq_zero_iff _).2 (poweredOn_slot s banks faults)

/-- With no line, no entry and no clear there is nothing to do before the grant. -/
theorem poweredOn_untilGrant (pre : State) :
    (poweredOn s banks faults).untilGrant pre false = poweredOn s banks faults := by
  have hage : ∀ b, (poweredOn s banks faults).ageExpired b = true → pre.ageExpired b = true := fun b h =>
    absurd (poweredOn_lineCount s banks faults b) (State.lineCount_of_ageExpired h)
  have hp : (poweredOn s banks faults).pressure = false := by
    rw [State.pressure, poweredOn_fill]
    rfl
  rw [State.untilGrant, State.runQueue_empty (s := poweredOn s banks faults) false rfl, State.takeAgeExpiries_none hage,
    State.pressureChoice_notDue (.inl hp)]

/-- Nor is there work to grant. -/
theorem poweredOn_grant : (poweredOn s banks faults).grant = poweredOn s banks faults := by
  rcases grant_cases (poweredOn s banks faults) with ⟨h, -⟩ | ⟨k, -, h⟩ | ⟨i, cls, -, h⟩ | ⟨b, -, h⟩
  · exact h
  · obtain ⟨e, he, -⟩ := readyEntry_some h
    cases he
  · obtain ⟨l, hl, -⟩ := isCandidate_some h
    rw [poweredOn_slot] at hl
    cases hl
  · cases h

theorem poweredOn_safe : (poweredOn s banks faults).safe = s.pins.supwarn := by
  have hm : ((poweredOn s banks faults).mode == .warn) = s.pins.supwarn := by
    show ((if s.pins.supwarn then WarnMode.warn else .normal) == .warn) = _
    cases s.pins.supwarn <;> rfl
  rw [State.safe, poweredOn_fill, hm]
  show (s.pins.supwarn && true && true) = _
  simp

end

/-- No timer runs after power-on reset. -/
theorem refreshedRecord_sampled {s u : State} {b : BankNo} (h : u.banks[b] = sampledRecord s b) :
    refreshedRecord u b = sampledRecord s b := by
  have hs : u.bankState b = .off ∨ u.bankState b = .stuck .off := by
    rw [State.bankState, h, sampledRecord]
    cases restsAtOff s b
    · exact .inr rfl
    · exact .inl rfl
  have hi : u.idleConditions b = false := by rcases hs with e | e <;> simp [State.idleConditions, e]
  have ho : u.offConditions b = false := by rcases hs with e | e <;> simp [State.offConditions, e]
  rw [refreshedRecord, hi, ho, h]
  rfl

/-- Settles O6: the frames by their wait, the reset by the sampling of the banks in order and an end that finds no work. -/
theorem powerOnResetGivesThePowerOnValues : Obligations.PowerOnResetGivesThePowerOnValues := by
  refine ⟨fun c s => exec_waiting, fun s => ?_⟩
  obtain ⟨banks, faults, he, h⟩ := sampleInputs_powerOn s
  have hend : s.powerOn.sampleInputs.finish s.powerOn false = (poweredOn s banks faults).afterGrant s.powerOn := by
    rw [he, State.finish, poweredOn_untilGrant, poweredOn_grant]
  have hin : ∀ b : BankNo, b ∈ List.finRange 8 := List.mem_finRange
  have hbank : ∀ b : BankNo, ((poweredOn s banks faults).afterGrant s.powerOn).banks[b] = sampledRecord s b := fun b => by
    rw [afterGrant_bank]
    exact refreshedRecord_sampled (u := poweredOn s banks faults) ((h.bank b).trans (if_pos (hin b)))
  have hirq : ((poweredOn s banks faults).afterGrant s.powerOn).irq =
      { lost := false, safe := s.pins.supwarn, clearDone := false, enables := 0 } := by
    have hsafe : s.powerOn.safe = false := rfl
    rw [afterGrant_irq, poweredOn_safe, hsafe]
    cases s.pins.supwarn <;> rfl
  have hsafe : ((poweredOn s banks faults).afterGrant s.powerOn).safe = s.pins.supwarn := by
    rw [afterGrant_eq]
    exact poweredOn_safe s banks faults
  refine ⟨_, congrArg Host.Outcome.next hend, ?_⟩
  rw [afterGrant_eq] at hbank hirq hsafe ⊢
  refine ⟨rfl, rfl, fun g => by simp [poweredOn, powerOnWith, State.powerOn, State.reset], rfl, State.reset_cause, rfl, rfl,
    rfl, rfl, rfl, rfl, rfl, rfl, rfl, hsafe, hirq, hbank, fun b => ⟨?_, ?_⟩, h.overflow, h.nextSeq, h.reports⟩
  · exact (h.hold b).trans (by simp [restsAtOff])
  · show faults.unlogged[b] = false
    rw [h.unlogged]
    exact State.reset_unlogged b

end Sys2Proof.Machine

/-! What a command sends: responses, and at most one operation, by its grant (R123, R124, R134). -/

namespace Sys2Proof.Machine

/-! ## A grant issues one operation -/

/-- Between `s` and `t` one operation has been issued: what the in-flight record, the outputs and its presenter show. -/
structure Issues (s t : State) (op : InFlight) (m : MemOp) : Prop where
  inFlight : t.port.inFlight = some op
  number : op.number = s.port.opNumber + 1
  opNumber : t.port.opNumber = op.number
  issued : t.out.issued = s.out.issued ++ [⟨op.number, m⟩]
  carries : t.Carries op m
  timer : op.accessTimer = .start t.regs.accessLimit.toNat
  bank : if op.kind = .zeroLine then (t.bankState op.bank).isClearing = true else t.bankState op.bank = .active

theorem grantEntry_issues {s : State} {k : Nat} (h : s.readyEntry = some k) : ∃ op m, Issues s (s.grantEntry k) op m := by
  obtain ⟨e, he, -, hb⟩ := readyEntry_some h
  have hm : { e with status := .issued } ∈ (s.setStatus k .issued).queue := by
    refine List.mem_of_getElem? (i := k) ?_
    rw [State.setStatus_queue, List.getElem?_modify, he]
    simp
  unfold State.grantEntry
  split
  next hn => rw [he] at hn; cases hn
  next e' he' =>
    cases he.symm.trans he'
    dsimp only
    cases ha : e.request.access with
    | read count =>
      refine ⟨_, _, rfl, rfl, rfl, rfl, ⟨_, hm, rfl, rfl, rfl, ?_, ?_⟩, rfl, hb⟩
      · simp [Request.count, ha]
      · simp only [ha, and_self]
    | write words =>
      refine ⟨_, _, rfl, rfl, rfl, rfl, ⟨_, hm, rfl, rfl, rfl, ?_, ?_⟩, rfl, hb⟩
      · simp [Request.count, ha]
      · simp only [ha, and_self]

theorem grantDrain_issues {s : State} {i : SlotNo} (cls : DrainClass) (h : s.isCandidate false i = true) :
    ∃ op m, Issues s (s.grantDrain i cls) op m := by
  obtain ⟨l, hl, -, hb⟩ := isCandidate_some h
  have hs : (s.store.startDrain i).slots[i] =
      some { l with state := .draining, drainContributors := 0, redirty := false } := by
    rw [LineStore.startDrain, LineStore.onLine_slot, if_pos rfl, hl, Option.map_some]
  unfold State.grantDrain
  split
  next hn => rw [hl] at hn; cases hn
  next l' hl' =>
    cases hl.symm.trans hl'
    cases cls <;> exact ⟨_, _, rfl, rfl, rfl, rfl, ⟨_, hs, rfl, rfl, rfl, rfl, rfl, rfl, rfl, rfl⟩, rfl, hb⟩

theorem grantZeroLine_issues {s : State} {b : BankNo} (h : s.zeroLineOffer = some b) :
    ∃ op m, Issues s (s.grantZeroLine b) op m := by
  unfold State.zeroLineOffer at h
  split at h
  · cases h
  · obtain ⟨hq, hb⟩ := Option.filter_eq_some_iff.mp h
    exact ⟨_, _, rfl, rfl, rfl, rfl, ⟨rfl, hq, rfl, rfl, rfl, rfl⟩, rfl, hb⟩

/-- The Arbiter leaves the state, where it may not grant or has no work, or issues one operation (R134). -/
theorem grant_issues (s : State) :
    (s.grant = s ∧ (s.pins.resetn = true ∨ s.port.inFlight ≠ none ∨ s.choice = none)) ∨ ∃ op m, Issues s s.grant op m := by
  rcases grant_cases s with h | ⟨k, h, hk⟩ | ⟨i, cls, h, hi⟩ | ⟨b, h, hb⟩
  · exact .inl h
  · rw [h]
    exact .inr (grantEntry_issues hk)
  · rw [h]
    exact .inr (grantDrain_issues cls hi)
  · rw [h]
    exact .inr (grantZeroLine_issues hb)

theorem Issues.afterGrant {s t : State} {op : InFlight} {m : MemOp} (h : Issues s t op m) (pre : State) :
    Issues s (t.afterGrant pre) op m := by
  have hb := afterGrant_bankState t pre op.bank
  have he := afterGrant_eq t pre
  exact {
    inFlight := by rw [he]; exact h.inFlight
    number := h.number
    opNumber := by rw [he]; exact h.opNumber
    issued := by rw [he]; exact h.issued
    carries := by rw [he]; exact h.carries
    timer := by rw [he]; exact h.timer
    bank := by rw [hb]; exact h.bank }

/-! ## A command's own effect issues nothing -/

/-- Responses may join those sent; nothing is issued. -/
structure Sends (s u : State) : Prop where
  responses : s.out.responses <+: u.out.responses
  issued : u.out.issued = s.out.issued
  opNumber : u.port.opNumber = s.port.opNumber

namespace Sends

theorem of_kept {s u : State} (ho : u.out = s.out) (hp : u.port = s.port) : Sends s u :=
  ⟨by rw [ho], by rw [ho], by rw [hp]⟩

theorem refl (s : State) : Sends s s := .of_kept rfl rfl

theorem trans {s t u : State} (h : Sends s t) (h' : Sends t u) : Sends s u :=
  ⟨h.responses.trans h'.responses, h'.issued.trans h.issued, h'.opNumber.trans h.opNumber⟩

theorem of_chain {s u : State} (h : EndSteps s u) (hk : PortKept s u) : Sends s u :=
  ⟨(eventEnd_steps h).responses, hk.issued, by rw [hk.port]⟩

end Sends

theorem firstEvaluation_sends (s : State) (r : Request) : Sends s (s.firstEvaluation r) := by
  have hj := s.judge_justified r
  unfold State.firstEvaluation
  dsimp only
  split
  next st _ =>
    refine .trans (t := s.appendEntry r st) (.of_kept rfl rfl) ?_
    exact .of_chain (State.perform_steps (s.appendEntry r _) r _ hj) (.perform (s.appendEntry r _) r _)
  next => exact .of_chain (State.perform_steps s r _ hj) (.perform s r _)

theorem takeRequest_sends (s : State) (r : Request) : Sends s (s.takeRequest r) := by
  unfold State.takeRequest
  split
  · exact firstEvaluation_sends s r
  · exact .of_kept rfl rfl

/-! ## What the end of an operation leaves alone -/

/-- What the routing of a completion leaves alone; a response may leave the S port. -/
structure RouteFrame (s u : State) : Prop where
  port : u.port = s.port := by rfl
  pins : u.pins = s.pins := by rfl
  pending : u.pending = s.pending := by rfl
  regs : u.regs = s.regs := by rfl
  issued : u.out.issued = s.out.issued := by rfl
  responses : s.out.responses <+: u.out.responses := by exact List.prefix_rfl

theorem routeWord_frame (s : State) (report : Report) (data : Vector Word 8) : RouteFrame s (s.routeWord report data) := by
  unfold State.routeWord
  split
  · exact {}
  · split
    · exact {}
    · split
      · exact { responses := List.prefix_append _ _ }
      · exact { responses := List.prefix_append _ _ }

theorem afterFreeing_frame {s u : State} (b : BankNo) (h : RouteFrame s u) : RouteFrame s (u.afterFreeing b) where
  port := (State.afterFreeing_port u b).trans h.port
  pins := (State.afterFreeing_pins u b).trans h.pins
  pending := (State.afterFreeing_pending u b).trans h.pending
  regs := (State.afterFreeing_regs u b).trans h.regs
  issued := by rw [State.afterFreeing_out, h.issued]
  responses := by rw [State.afterFreeing_out]; exact h.responses

theorem routeLine_frame (s : State) (i : SlotNo) (report : Report) : RouteFrame s (s.routeLine i report) := by
  unfold State.routeLine
  split
  · exact {}
  · split
    · exact {}
    · exact afterFreeing_frame _ {}
    · exact {}
    · refine afterFreeing_frame _ ⟨?_, ?_, ?_, ?_, ?_, ?_⟩ <;> simp

theorem handFault_frame (s : State) (rep : FaultReport) : RouteFrame s (s.handFault rep) := by
  constructor <;> simp

theorem routeZero_frame (s : State) (report : Report) : RouteFrame s (s.routeZero report) := by
  have advance : ∀ (u : State) (b : BankNo), RouteFrame s u → RouteFrame s (u.advanceClear b) := by
    intro u b h
    unfold State.advanceClear
    split
    · exact ⟨h.port, h.pins, h.pending, h.regs, h.issued, h.responses⟩
    · exact ⟨h.port, h.pins, h.pending, h.regs, h.issued, h.responses⟩
  unfold State.routeZero
  split
  · split
    · exact {}
    · refine advance _ _ ?_
      cases report with
      | ok => exact {}
      | error =>
        have h := handFault_frame s ⟨.clearWriteError, ‹_›, some (lineInBank ‹_› s.clear.cursor.toNat), none, none, none⟩
        exact ⟨h.port, h.pins, h.pending, h.regs, h.issued, h.responses⟩
  · exact {}

theorem route_frame (s : State) (op : InFlight) (report : Report) (data : Vector Word 8) :
    RouteFrame s (s.route op report data) := by
  unfold State.route
  split
  · exact routeWord_frame s report data
  · exact routeLine_frame s _ report
  · exact routeZero_frame s report

theorem complete_sends (s : State) (op : InFlight) (report : Report) (data : Vector Word 8) :
    Sends s ((s.endOperation op.bank).route op report data) := by
  have h := route_frame (s.endOperation op.bank) op report data
  exact ⟨h.responses, h.issued, by rw [h.port]; rfl⟩

theorem timeOut_sends (s : State) (op : InFlight) : Sends s (s.timeOut op) := by
  have told : Sends s ((s.endOperation op.bank).tellTimeout op) := by
    unfold State.tellTimeout
    split
    · exact ⟨List.prefix_rfl, rfl, rfl⟩
    · split <;> exact ⟨List.prefix_rfl, rfl, rfl⟩
    · exact ⟨List.prefix_rfl, rfl, rfl⟩
  exact told.trans (.of_kept (by simp [State.timeOut]) (by simp [State.timeOut]))

theorem foldl_sends {α : Type} {f : State → α → State} (ho : ∀ s a, (f s a).out = s.out) (hp : ∀ s a, (f s a).port = s.port)
    (l : List α) (s : State) : Sends s (l.foldl f s) :=
  .of_kept (foldl_keeps State.out ho l s) (foldl_keeps State.port hp l s)

theorem flushEvery_sends (s : State) : Sends s s.flushEvery := by
  refine foldl_sends (fun t b => ?_) (fun t b => ?_) _ _
  · split <;> simp [State.flushBank]
  · split <;> simp [State.flushBank]

theorem enterWarn_sends (s : State) : Sends s s.enterWarn := by
  refine .trans (t := { s with mode := .warn }) (.of_kept rfl rfl) ?_
  exact foldl_sends (f := fun u b => u.addCause b fun c => { c with warn := true }) (fun t b => by simp) (fun t b => by simp)
    _ _

theorem fitBank_kept (old new : Nat) (s : State) (b : BankNo) :
    (s.fitBank old new b).out = s.out ∧ (s.fitBank old new b).port = s.port := by
  unfold State.fitBank
  split <;> simp

theorem refit_sends (s : State) (v : BitVec 16) : Sends s (s.refit v) := by
  refine .trans (t := { s with regs := { s.regs with banksFitted := v.extractLsb' 0 4 } }) (.of_kept rfl rfl) ?_
  exact foldl_sends (fun t b => (fitBank_kept _ _ t b).1) (fun t b => (fitBank_kept _ _ t b).2) _ _

theorem removeHead_sends (s : State) : Sends s s.removeHead := by
  unfold State.removeHead
  split
  · exact .refl s
  · exact .of_kept (by simp) (by simp)

theorem warmReset_sends (s : State) : Sends s s.warmReset := by
  unfold State.warmReset
  generalize s.store.returnAllHeld = st
  generalize mapAll s.banks _ = bs
  exact ⟨List.prefix_rfl, rfl, rfl⟩

theorem milliStep_sends (s : State) : Sends s s.milliStep := by
  unfold State.milliStep
  generalize s.store.ageAll = st
  dsimp only
  split
  · exact .of_kept rfl rfl
  · exact .of_kept (by simp only [State.tenMilliStep, State.countBanks]) (by simp only [State.tenMilliStep, State.countBanks])

theorem discardBank_sends (s : State) (b : BankNo) : Sends s (s.discardBank b) := by
  rw [discardBank_eq]
  exact .of_kept (by rw [State.descend_out]; simp [discarded]) (by rw [State.descend_port]; simp [discarded])

theorem ownEffect_sends {s u : State} (h : OwnEffect s u) : Sends s u := by
  cases h with
  | take r hp hm => exact takeRequest_sends s r
  | complete op report data h => exact complete_sends s op report data
  | timeOut op h => exact timeOut_sends s op
  | settleTimeout b h => exact .of_kept (by simp) (by simp)
  | settleWaking b level settled o hf h => exact .of_kept (by simp; rfl) (by simp; rfl)
  | settleDescending b level settled o hf h => exact .of_kept (by simp; rfl) (by simp; rfl)
  | unsolicited b level settled hf => exact .of_kept (by simp; rfl) (by simp; rfl)
  | descend b o => exact .of_kept (by simp) (by simp)
  | cause b f => exact .of_kept (by simp) (by simp)
  | flushEvery => exact flushEvery_sends s
  | warn => exact .trans (t := s.driveSupwarn true) (.of_kept rfl rfl) (enterWarn_sends _)
  | warmReset h => exact .trans (t := s.driveResetn true) (.of_kept rfl rfl) (warmReset_sends _)
  | leaveWarn =>
    unfold State.leaveWarn
    split <;> exact .of_kept rfl rfl
  | removeHead => exact .trans (t := s.endFrame) (.of_kept rfl rfl) (removeHead_sends _)
  | clearUnlogged b => exact .of_kept (by simp [State.clearUnlogged]) (by simp [State.clearUnlogged])
  | capture r => cases r <;> exact .of_kept rfl rfl
  | refit v h hm => exact .trans (t := s.setTickDiv v) (.of_kept rfl rfl) (refit_sends _ v)
  | wake b o hf h => exact .of_kept (by simp) (by simp)
  | discard b hf h => exact discardBank_sends s b
  | clearWake b o hf h hl => exact .of_kept (by simp) (by simp)
  | millisecond => exact milliStep_sends s
  | policy b f => exact .of_kept (by simp; rfl) (by simp; rfl)
  | clear b hf h hl => exact .of_kept (by simp) (by simp)
  | holdAwake b => exact .of_kept rfl rfl
  | late => exact ⟨List.prefix_rfl, rfl, rfl⟩
  | sample b level settled hf => exact .of_kept (by simp; rfl) (by simp; rfl)
  | _ => exact .of_kept rfl rfl

/-! ## A command issues at most one operation -/

/-- What a command may have sent between two states. -/
def SentAtMostOne (s t : State) : Prop :=
  s.out.responses <+: t.out.responses ∧ (t.out.issued = s.out.issued ∨ ∃ op m, Issues s t op m)

theorem Sends.sent {s u : State} (h : Sends s u) : SentAtMostOne s u := ⟨h.responses, .inl h.issued⟩

/-- What follows a grant sends nothing. -/
theorem afterGrant_sends (s pre : State) : Sends s (s.afterGrant pre) := by
  rw [afterGrant_eq]
  exact .of_kept rfl rfl

theorem untilGrant_sends (s pre : State) (released : Bool) : Sends s (s.untilGrant pre released) :=
  .of_chain (State.untilGrant_steps s pre released) (.untilGrant s pre released)

theorem finish_sent {s u : State} (h : Sends s u) (pre : State) (released : Bool) :
    SentAtMostOne s (u.finish pre released) := by
  have hv := h.trans (untilGrant_sends u pre released)
  have ht := afterGrant_sends (u.untilGrant pre released).grant pre
  have hg : (u.untilGrant pre released).out.responses = (u.untilGrant pre released).grant.out.responses :=
    (QuietEnd.grant _).responses.symm
  refine ⟨hv.responses.trans (hg ▸ ht.responses), ?_⟩
  rcases grant_issues (u.untilGrant pre released) with ⟨e, -⟩ | ⟨op, m, hi⟩
  · rw [e] at ht
    refine .inl (?_ : ((u.untilGrant pre released).grant.afterGrant pre).out.issued = _)
    rw [e]
    exact (hv.trans ht).issued
  · have hi' := hi.afterGrant pre
    refine .inr ⟨op, m, hi'.inFlight, ?_, hi'.opNumber, ?_, hi'.carries, hi'.timer, hi'.bank⟩
    · rw [hi'.number, hv.opNumber]
    · exact hi'.issued.trans (by rw [hv.issued])

theorem finishCompletion_sent {s u : State} (h : Sends s u) (pre : State) (released : Bool) :
    SentAtMostOne s (u.finishCompletion pre released) := by
  unfold State.finishCompletion
  split
  · exact (h.trans ((untilGrant_sends u pre released).trans (afterGrant_sends _ pre))).sent
  · exact finish_sent h pre released

/-- Power-on reset sends nothing: it finds no work (R26). -/
theorem powerOnReset_sends (s : State) : (s.powerOn.sampleInputs.finish s.powerOn false).out = s.out := by
  obtain ⟨t, ht, h⟩ := powerOnResetGivesThePowerOnValues.2 s
  obtain ⟨-, -, -, -, -, -, -, -, -, -, -, ho, -⟩ := h
  have he : s.powerOn.sampleInputs.finish s.powerOn false = t := by
    injection ht
  rw [he, ho]

theorem result_sent {s t : State} (h : Result s t) : SentAtMostOne s t := by
  induction h with
  | plain h => exact (ownEffect_sends h).sent
  | ended h released => exact finish_sent (ownEffect_sends h) s released
  | completed h released => exact finishCompletion_sent (ownEffect_sends h) s released
  | replied h n status results ih =>
    refine ⟨ih.1, ih.2.imp id ?_⟩
    rintro ⟨op, m, h1, h2, h3, h4, h5, h6, h7⟩
    exact ⟨op, m, h1, h2, h3, h4, h5, h6, h7⟩
  | reset =>
    have ho := powerOnReset_sends s
    exact ⟨by rw [ho], .inl (by rw [ho])⟩

/-- Settles O22: a command's own effect issues nothing, and what follows it makes at most one grant. -/
theorem eachEventIssuesAtMostOneOperation : Obligations.EachEventIssuesAtMostOneOperation := by
  intro c s t h
  obtain ⟨hr, hi⟩ := result_sent (exec_result h)
  refine ⟨hr, hi.imp id ?_⟩
  rintro ⟨op, m, h1, h2, h3, h4, h5, h6, h7⟩
  exact ⟨op, m, h1, h2, h3, h4, h5, h6, h7⟩

end Sys2Proof.Machine

/-! RESETn: its assertion keeps the store and the banks and abandons the rest (R71, R97, R139, R153, R199), its negation
resumes (R134). -/

namespace Sys2Proof.Machine

/-! ## The store -/

namespace LineStore

theorem heldLine_addr (l : Line) : (heldLine l).addr = l.addr := by
  unfold heldLine
  split <;> rfl

theorem returnAllHeld_toList (st : LineStore) :
    st.returnAllHeld.slots.toList = st.slots.toList.map (Option.map heldLine) := by
  apply List.ext_getElem
  · simp
  · intro k hk hk'
    have h := st.returnAllHeld_slot ⟨k, by simpa using hk⟩
    simpa using h

/-- A warm reset frees no slot (R27). -/
theorem returnAllHeld_fill (st : LineStore) : st.returnAllHeld.fill = st.fill := by
  rw [fill, returnAllHeld_toList, List.countP_map, fill]
  exact List.countP_congr fun o _ => by cases o <;> simp

theorem returnAllHeld_lineCount (st : LineStore) (b : BankNo) : st.returnAllHeld.lineCount b = st.lineCount b := by
  rw [lineCount, returnAllHeld_toList, List.countP_map, lineCount]
  refine List.countP_congr fun o _ => ?_
  cases o with
  | none => simp
  | some l => simp [slotOfBank, Line.bank, heldLine_addr]

end LineStore

/-! ## What the assertion itself leaves -/

/-- The state that the assertion of RESETn itself leaves. -/
def resetAsserted (s : State) : State := (s.driveResetn true).warmReset

section
variable (s : State) (b : BankNo)

theorem resetAsserted_store : (resetAsserted s).store = s.store.returnAllHeld := rfl
theorem resetAsserted_regs : (resetAsserted s).regs =
    { s.regs with resetCount := satInc s.regs.resetCount, linesAtReset := BitVec.ofNat 8 s.store.fill } := by
  simp only [resetAsserted, State.warmReset, State.driveResetn]
theorem resetAsserted_pins : (resetAsserted s).pins = { s.pins with resetn := true } := rfl
theorem resetAsserted_clear : (resetAsserted s).clear = ClearEngine.reset := rfl
theorem resetAsserted_causes : (resetAsserted s).causes = s.causes := by
  simp only [resetAsserted, State.warmReset, State.driveResetn]
theorem resetAsserted_queue : (resetAsserted s).queue = [] := rfl

/-- What the assertion itself leaves, and the port (R139). -/
theorem resetAsserted_rest : (resetAsserted s).out = s.out ∧
    (resetAsserted s).port = ⟨none, s.port.opNumber, .entry, s.port.lateCount⟩ ∧ (resetAsserted s).regions = s.regions ∧
    (resetAsserted s).faults = s.faults ∧ (resetAsserted s).mode = s.mode ∧ (resetAsserted s).clock = s.clock ∧
    (resetAsserted s).mgmt = s.mgmt ∧ (resetAsserted s).irq = s.irq := by
  simp only [resetAsserted, State.warmReset, State.driveResetn, and_self]

theorem resetAsserted_bank : (resetAsserted s).banks[b] = State.warmRecord s.regs.settleLimit.toNat s.banks[b] :=
  mapAll_self s.banks (State.warmRecord s.regs.settleLimit.toNat) b

theorem resetAsserted_lineCount : (resetAsserted s).lineCount b = s.lineCount b := s.store.returnAllHeld_lineCount b

theorem resetAsserted_pressure : (resetAsserted s).pressure = s.pressure := by
  rw [State.pressure, resetAsserted_store, LineStore.returnAllHeld_fill, resetAsserted_regs, State.pressure]

end

/-- At the assertion a record keeps all but the state of a CLEARING bank and the settle timer of a transition (R97). -/
theorem warmRecord_kept (limit : Nat) (k : BankRecord) :
    State.warmRecord limit k = { k with
      state := (State.warmRecord limit k).state, settleTimer := (State.warmRecord limit k).settleTimer } := by
  unfold State.warmRecord
  cases k.state <;> rfl

theorem warmRecord_state (limit : Nat) (k : BankRecord) :
    (State.warmRecord limit k).state = if k.state.isClearing then .active else k.state := by
  cases h : k.state <;> simp [State.warmRecord, h, BankState.isClearing]

theorem warmRecord_settleTimer (limit : Nat) (k : BankRecord) (h : k.state.inTransition = true) :
    (State.warmRecord limit k).settleTimer = .running limit 0 := by
  cases hk : k.state with
  | waking o => simp only [State.warmRecord, hk, Timer.start]
  | descending o => simp only [State.warmRecord, hk, Timer.start]
  | _ => rw [hk] at h; cases h

/-! ## No clear begins in an event's end that finds none -/

/-- The Clear Engine is as at reset, and a bank that is OFF holds no lines. -/
structure ClearsAbandoned (s : State) : Prop where
  clear : s.clear = ClearEngine.reset
  off : ∀ b, s.bankState b = .off → s.lineCount b = 0

theorem reset_wanted (b : BankNo) : ClearEngine.reset.wanted[b] = false := by simp [ClearEngine.reset]

namespace ClearsAbandoned

/-- A wake from RETAIN finds no clear pending. -/
theorem wake_retain {s : State} (h : ClearsAbandoned s) (b : BankNo) : ClearsAbandoned (s.wake b .retain) := by
  have hw : ((s.requestLevel b .active (.waking .retain)).setBank b fun k =>
      { k with wakeCount := satInc k.wakeCount }).clear = ClearEngine.reset := h.clear
  refine ⟨?_, fun c hc => ?_⟩
  · unfold State.wake
    dsimp only
    split
    · unfold State.settleWaking
      dsimp only
      rw [if_neg (by rw [hw, reset_wanted]; decide)]
      exact h.clear
    · exact h.clear
  · rw [State.lineCount, State.wake_store]
    by_cases e : b = c
    · subst e
      obtain ⟨-, -, -, -, -, -, hs⟩ := wake_record s b .retain
      rw [State.bankState] at hc
      rcases hs with e | e | e <;> rw [e] at hc <;> cases hc
    · rw [State.bankState, State.wake_other s .retain e] at hc
      exact h.off c hc

theorem setPendingWake {s : State} (h : ClearsAbandoned s) (b : BankNo) :
    ClearsAbandoned (s.setBank b fun k => { k with pendingWake := true }) := by
  refine ⟨h.clear, fun c hc => h.off c ?_⟩
  by_cases e : b = c
  · subst e
    rwa [State.bankState, State.setBank_same] at hc
  · rwa [State.bankState, State.setBank_other _ _ e] at hc

/-- A cause joins the set of a bank with lines, which is not OFF. -/
theorem addCause {s : State} (h : ClearsAbandoned s) (b : BankNo) (f : DrainCauses → DrainCauses) :
    ClearsAbandoned (s.addCause b f) := by
  have hc : ClearsAbandoned (s.setCauses b f) := ⟨h.clear, h.off⟩
  unfold State.addCause
  split
  · exact h
  next hl =>
    split
    · exact hc
    · unfold State.demand
      split
      · split
        next ho => exact absurd (h.off b ho) hl
        next => exact hc.wake_retain b
        next => exact hc.setPendingWake b
        all_goals exact hc
      · exact hc

theorem untilGrant {s pre : State} {released : Bool} (h : ClearsAbandoned s) (hq : State.runQueue pre released s = s) :
    ClearsAbandoned (s.untilGrant pre released) := by
  have expiries : ∀ (banks : List BankNo) (t : State), ClearsAbandoned t → ClearsAbandoned (banks.foldl
      (fun t b => if !pre.ageExpired b && s.ageExpired b then t.addCause b fun c => { c with age := true } else t) t) := by
    intro banks
    induction banks with
    | nil => exact fun t ht => ht
    | cons b rest ih =>
      intro t ht
      refine ih _ ?_
      dsimp only
      split
      · exact ht.addCause b _
      · exact ht
  rw [State.untilGrant, hq]
  have ha := expiries (List.finRange 8) s h
  unfold State.pressureChoice
  split
  · dsimp only
    split
    · exact ha.addCause _ _
    · exact ha
  · exact ha

end ClearsAbandoned

/-! ## What follows the assertion -/

/-- While RESETn is asserted nothing is granted. -/
theorem finish_reset {s pre : State} {released : Bool} (h : s.pins.resetn = true) :
    s.finish pre released = (s.untilGrant pre released).afterGrant pre := by
  rw [State.finish, grant_reset]
  rw [(eventEnd_steps (State.untilGrant_steps s pre released)).pins, h]

/-- While RESETn is asserted the idle and off timers stand still (R97). -/
theorem finish_reset_timers {s pre : State} {released : Bool} (h : s.pins.resetn = true) (b : BankNo) :
    (s.finish pre released).banks[b].idleTimer = .stopped ∧ (s.finish pre released).banks[b].offTimer = .stopped := by
  have hu : (s.untilGrant pre released).pins.resetn = true := by
    rw [(eventEnd_steps (State.untilGrant_steps s pre released)).pins, h]
  rw [finish_reset h, afterGrant_bank]
  simp [refreshedRecord, State.idleConditions, State.offConditions, State.followTimer, hu]

theorem resetAsserted_rests (s pre : State) (released : Bool) :
    State.runQueue pre released (resetAsserted s) = resetAsserted s := State.runQueue_empty released (resetAsserted_queue s)

/-- The assertion and what follows it move power and causes alone. -/
theorem resetAsserted_power (s : State) : PowerEnd (resetAsserted s) ((resetAsserted s).finish s false) := by
  rw [finish_reset (by rw [resetAsserted_pins])]
  exact (PowerEnd.untilGrant (resetAsserted_rests s s false)).trans (.afterGrant _ s)

theorem resetAsserted_clears {s : State} (h : s.SleepersHoldNoLines) :
    ((resetAsserted s).finish s false).clear = ClearEngine.reset := by
  have hu : ClearsAbandoned (resetAsserted s) := by
    refine ⟨resetAsserted_clear s, fun b hb => ?_⟩
    rw [resetAsserted_lineCount]
    refine (h b).1 ?_
    rw [State.bankState, resetAsserted_bank, warmRecord_state] at hb
    split at hb
    · cases hb
    · rw [State.bankState, hb]
      rfl
  rw [finish_reset (by rw [resetAsserted_pins]), afterGrant_eq]
  exact (hu.untilGrant (resetAsserted_rests s s false)).clear

/-- The age-expired indications depend on the store and AGE LIMIT (R22). -/
theorem ageExpired_congr {s t : State} (hs : t.store = s.store) (hl : t.regs.ageLimit = s.regs.ageLimit) (b : BankNo) :
    t.ageExpired b = s.ageExpired b := by
  unfold State.ageExpired
  rw [hs, hl]

/-- Without an age expiry or a pressure choice the assertion leaves every set of causes (R100, R101). -/
theorem resetAsserted_causes_kept {s : State}
    (ha : ∀ b : BankNo, State.ageExpired { s with store := s.store.returnAllHeld } b = true → s.ageExpired b = true)
    (hp : s.pressure = false ∨ s.hasPressureBank = true) : ((resetAsserted s).finish s false).causes = s.causes := by
  have he : ∀ b, (resetAsserted s).ageExpired b = true → s.ageExpired b = true := fun b hb =>
    ha b ((ageExpired_congr (s := resetAsserted s) (t := { s with store := s.store.returnAllHeld })
      (resetAsserted_store s).symm (by rw [resetAsserted_regs]) b).trans hb)
  rw [State.finish_causes, State.untilGrant, resetAsserted_rests, State.takeAgeExpiries_none he,
    State.pressureChoice_notDue, resetAsserted_causes]
  rw [resetAsserted_pressure, State.hasPressureBank_congr (resetAsserted_causes s)]
  exact hp

/-- A bank whose causes stand keeps its record but for its timers. -/
theorem PowerEnd.record_kept {s t : State} (h : PowerEnd s t) {b : BankNo} (hc : t.causes[b] = s.causes[b]) :
    TimersOnly s.banks[b] t.banks[b] := by
  rcases h.moved b with hm | ⟨h0, h1⟩
  · exact hm
  · rw [hc, h0] at h1
    cases h1

theorem exec_resetnAssertion {s : State} (h : s.pins.resetn = false) :
    exec .resetnAssertion s = .next ((resetAsserted s).finish s false) := by
  show execResetnAssertion s = _
  rw [execResetnAssertion, if_neg (by simp [h])]
  rfl

/-- How the assertion and what follows it move a bank. -/
theorem resetAsserted_bank_rest (s : State) (b : BankNo) :
    BankRest (State.warmRecord s.regs.settleLimit.toNat s.banks[b]) ((resetAsserted s).finish s false).banks[b] := by
  rw [← resetAsserted_bank]
  exact (finish_eventEnd (resetAsserted s) s false).bank b

section
variable (s : State) (b : BankNo)

/-- A CLEARING bank enters ACTIVE (R97). -/
theorem resetAsserted_clearing (h : (s.bankState b).isClearing = true) :
    ((resetAsserted s).finish s false).bankState b = .active ∧
      ((resetAsserted s).finish s false).banks[b].lost = s.banks[b].lost := by
  have hs : (State.warmRecord s.regs.settleLimit.toNat s.banks[b]).state = .active := by
    rw [warmRecord_state]
    exact if_pos h
  have hk : TimersOnly _ _ := (resetAsserted_bank_rest s b).stays (by rw [hs]; rfl)
  exact ⟨hk.state.trans hs, hk.lost.trans (by rw [warmRecord_kept])⟩

/-- A bank in transition stays so, its settle timer afresh (R97). -/
theorem resetAsserted_transition (h : (s.bankState b).inTransition = true) :
    ((resetAsserted s).finish s false).bankState b = s.bankState b ∧
      ((resetAsserted s).finish s false).banks[b].settleTimer = .running s.regs.settleLimit.toNat 0 := by
  have hr := resetAsserted_bank_rest s b
  have ht := warmRecord_settleTimer s.regs.settleLimit.toNat s.banks[b] h
  have hs : (State.warmRecord s.regs.settleLimit.toNat s.banks[b]).state = s.bankState b := by
    rw [warmRecord_state, State.bankState]
    refine if_neg fun hc => ?_
    rw [State.bankState] at h
    cases hb : s.banks[b].state <;> rw [hb] at h hc <;> simp [BankState.inTransition, BankState.isClearing] at h hc
  have hk : ((resetAsserted s).finish s false).bankState b =
      (State.warmRecord s.regs.settleLimit.toNat s.banks[b]).state ∧
      ((resetAsserted s).finish s false).banks[b].settleTimer =
        (State.warmRecord s.regs.settleLimit.toNat s.banks[b]).settleTimer := by
    cases hb : s.bankState b with
    | waking o =>
      have hk : TimersOnly _ _ := hr.stays (by rw [hs, hb]; rfl)
      exact ⟨hk.state, hk.settleTimer⟩
    | descending o =>
      obtain ⟨hk, -⟩ := hr.descending o (hs.trans hb)
      rw [State.bankState, hk]
      exact ⟨rfl, rfl⟩
    | _ => rw [hb] at h; cases h
  exact ⟨hk.1.trans hs, hk.2.trans ht⟩

/-- A bank that is ACTIVE or STUCK stays so. -/
theorem resetAsserted_settled (h : (s.bankState b).isStuck = true ∨ s.bankState b = .active) :
    ((resetAsserted s).finish s false).bankState b = s.bankState b := by
  have hs : (State.warmRecord s.regs.settleLimit.toNat s.banks[b]).state = s.bankState b := by
    rw [warmRecord_state, State.bankState]
    refine if_neg fun hc => ?_
    rw [State.bankState] at h
    cases hb : s.banks[b].state <;> rw [hb] at h hc <;> simp [BankState.isStuck, BankState.isClearing] at h hc
  have hk : TimersOnly _ _ := (resetAsserted_bank_rest s b).stays (by
    rw [hs]
    cases hb : s.bankState b <;> rw [hb] at h <;> simp [BankState.isStuck, BankState.stays] at h ⊢)
  exact hk.state.trans hs

/-- A bank that no cause moves keeps its record, but for what R97 names. -/
theorem resetAsserted_unmoved (h : ((resetAsserted s).finish s false).causes[b] = s.causes[b]) :
    TimersOnly (State.warmRecord s.regs.settleLimit.toNat s.banks[b]) ((resetAsserted s).finish s false).banks[b] := by
  rw [← resetAsserted_bank]
  exact (resetAsserted_power s).record_kept (by rw [h, resetAsserted_causes])

end

/-! ## A completion that the assertion follows (R202) -/

/-- It grants nothing. -/
theorem completion_resetFollows {s : State} {op : InFlight} {report : Report} {data : Vector Word 8}
    (hr : s.pins.resetn = false) (hp : s.pending.head? = some .resetnAssertion) (hf : s.port.inFlight = some op) :
    ∃ t, exec (.completion op.number report data) s = .next t ∧ t.port.inFlight = none ∧ t.out.issued = s.out.issued ∧
      t.port.opNumber = s.port.opNumber ∧ t.pending = s.pending := by
  have frame := route_frame (s.endOperation op.bank) op report data
  generalize hu : (s.endOperation op.bank).route op report data = u at frame
  have follows : u.resetFollows = true := by
    rw [State.resetFollows, frame.pins, frame.pending]
    show (!s.pins.resetn && s.pending.head? == some .resetnAssertion) = true
    rw [hr, hp]
    decide
  have kept := PortKept.untilGrant u s op.kind.isWord
  have ended := eventEnd_steps (State.untilGrant_steps u s op.kind.isWord)
  refine ⟨(u.untilGrant s op.kind.isWord).afterGrant s, ?_, ?_⟩
  · show execCompletion op.number report data s = _
    rw [execCompletion, hf]
    dsimp only
    rw [if_pos rfl, hu, State.finishCompletion, if_pos follows]
  · rw [afterGrant_eq]
    refine ⟨?_, kept.issued.trans frame.issued, ?_, ended.pending.trans frame.pending⟩
    · show (u.untilGrant s op.kind.isWord).port.inFlight = none
      rw [kept.port, frame.port]
      rfl
    · show (u.untilGrant s op.kind.isWord).port.opNumber = _
      rw [kept.port, frame.port]
      rfl

/-! ## What follows the negation -/

/-- The Arbiter's choice depends on the store, the queue, the banks' states, the causes, the mode, the port and the Clear
Engine (R135). -/
theorem choice_congr {s t : State} (hs : t.store = s.store) (hq : t.queue = s.queue) (hc : t.causes = s.causes)
    (hm : t.mode = s.mode) (hp : t.port = s.port) (he : t.clear = s.clear) (hb : ∀ b, t.bankState b = s.bankState b) :
    t.choice = s.choice := by
  have candidate : t.isCandidate = s.isCandidate := by
    funext flagged i
    simp only [State.isCandidate, State.drainWanted, hs, hb, hc]
  have ready : t.readyEntry = s.readyEntry := by simp only [State.readyEntry, hq, hb]
  have zero : t.zeroLineOffer = s.zeroLineOffer := by simp only [State.zeroLineOffer, he, hb]
  have offer : t.drainOffer = s.drainOffer := by simp only [State.drainOffer, candidate, hs, hm]
  simp only [State.choice, offer, ready, zero, hp]

theorem afterGrant_choice (s pre : State) : (s.afterGrant pre).choice = s.choice := by
  have h := afterGrant_eq s pre
  exact choice_congr (by rw [h]) (by rw [h]) (by rw [h]) (by rw [h]) (by rw [h]) (by rw [h]) (afterGrant_bankState s pre)

/-- While RESETn is negated, an event that ends with the port FREE leaves no work for it (R134). -/
theorem finish_leavesNoWork {s pre : State} {released : Bool} (hr : s.pins.resetn = false)
    (hf : (s.finish pre released).port.inFlight = none) : (s.finish pre released).choice = none := by
  have hp := (eventEnd_steps (State.untilGrant_steps s pre released)).pins
  rw [State.finish] at hf ⊢
  rw [afterGrant_choice]
  have hg : (s.untilGrant pre released).grant.port.inFlight = none := by
    rw [afterGrant_eq] at hf
    exact hf
  rcases grant_issues (s.untilGrant pre released) with ⟨e, h⟩ | ⟨op, m, h⟩
  · rw [e] at hg ⊢
    rcases h with h | h | h
    · rw [hp, hr] at h
      cases h
    · exact absurd hg h
    · exact h
  · rw [h.inFlight] at hg
    cases hg

theorem followTimer_isRunning (holds : Bool) (delay : Nat) (t : Timer) :
    (State.followTimer holds delay t).isRunning = holds := by
  unfold State.followTimer
  cases holds with
  | false => rfl
  | true =>
    rw [if_pos rfl]
    split
    · assumption
    · rfl

/-- After an event the timers run exactly where their conditions hold (R82, R84). -/
theorem finish_timers (s pre : State) (released : Bool) (b : BankNo) :
    (s.finish pre released).banks[b].idleTimer.isRunning = (s.finish pre released).idleConditions b ∧
      (s.finish pre released).banks[b].offTimer.isRunning = (s.finish pre released).offConditions b := by
  rw [State.finish, afterGrant_bank, (afterGrant_conditions _ pre b).1, (afterGrant_conditions _ pre b).2]
  exact ⟨followTimer_isRunning .., followTimer_isRunning ..⟩

theorem exec_resetnNegation {s : State} (h : s.pins.resetn = true) :
    exec .resetnNegation s = .next ((s.driveResetn false).finish s false) := if_pos h

/-! ## The statement -/

/-- Settles O45: the warm reset moves what R27, R71, R97, R139 and R153 name; what follows it moves power and causes
alone. -/
theorem warmResetKeepsTheStore : Obligations.WarmResetKeepsTheStore := by
  intro s
  refine ⟨fun h => if_pos h, fun h => ?_, fun op report data hr hp hf => completion_resetFollows hr hp hf,
    fun h => if_neg (by simp [h]), fun h => ?_⟩
  · have power := resetAsserted_power s
    have ended := finish_eventEnd (resetAsserted s) s false
    have timers := fun b => finish_reset_timers (s := resetAsserted s) (pre := s) (released := false) rfl b
    have clears := resetAsserted_clears (s := s)
    have clearing := resetAsserted_clearing s
    have transition := resetAsserted_transition s
    have settled := resetAsserted_settled s
    have rest := resetAsserted_bank_rest s
    have unmoved := resetAsserted_unmoved s
    have causes := resetAsserted_causes_kept (s := s)
    have run := exec_resetnAssertion h
    have kept := fun b : BankNo => warmRecord_kept s.regs.settleLimit.toNat s.banks[b]
    generalize (resetAsserted s).finish s false = t at *
    obtain ⟨hout, hport, hregions, hfaults, hmode, hclock, hmgmt, hirq⟩ := resetAsserted_rest s
    refine ⟨t, run, ended.pins.trans (resetAsserted_pins s), power.queue.trans (resetAsserted_queue s),
      power.out.trans hout, power.port.trans hport, fun i => ?_, ?_, ?_, ended.regions.trans hregions,
      ended.faults.trans hfaults, ended.mode.trans hmode, ended.clock.trans hclock, ended.mgmt.trans hmgmt,
      ended.clearDone.trans (by rw [hirq]), clears, clearing, transition, settled, fun b => ?_, fun b hb => ?_,
      fun b => ?_, fun ha hp b => by rw [causes ha hp], timers⟩
    · rw [power.store, resetAsserted_store, LineStore.returnAllHeld_slot]
      refine congrArg (fun f => Option.map f s.store.slots[i]) (funext fun l => ?_)
      simp only [LineStore.heldLine, beq_iff_eq]
    · rw [power.store, resetAsserted_store]
      simp only [LineStore.returnAllHeld]
    · rw [ended.regs, resetAsserted_regs, satInc_eq]
      rfl
    · exact ⟨(rest b).reported.trans (by rw [kept b]), (rest b).settled.trans (by rw [kept b]),
        fun hl => (rest b).lost (by rw [kept b]; exact hl)⟩
    · have hk := unmoved b hb
      refine ⟨fun hc => ?_, hk.request.trans (by rw [kept b]), hk.lost.trans (by rw [kept b]),
        hk.pendingWake.trans (by rw [kept b]), hk.wakeCount.trans (by rw [kept b])⟩
      refine hk.state.trans ?_
      rw [warmRecord_state]
      exact if_neg (by rw [State.bankState] at hc; rw [hc]; decide)
    · obtain ⟨hage, hpressure, -⟩ := ended.causes b
      obtain ⟨hflush, hwarn⟩ := ended.orders b
      rw [resetAsserted_causes] at hage hpressure hflush hwarn
      exact ⟨hage, hpressure, hflush, hwarn⟩
  · have ended := finish_eventEnd (s.driveResetn false) s false
    have quiet := (finish_tail (s := s.driveResetn false) (pre := s) (released := false)
      (State.runQueue_unmoved rfl rfl rfl rfl)).quiet
    exact ⟨_, exec_resetnNegation h, ended.pins, ended.regs, ended.regions, ended.faults, ended.mode, ended.clock,
      ended.mgmt, quiet.ageList, quiet.responses, fun hf => finish_leavesNoWork rfl hf,
      fun b => finish_timers (s.driveResetn false) s false b⟩

end Sys2Proof.Machine

/-! The end of a drain write at its completion (R12 to R14), and what every completion ends (R126, R82). -/

namespace Sys2Proof.Machine

/-! ## The idle timer starts afresh -/

/-- The idle timer of a bank is stopped, or has started with RETAIN DELAY and not counted. -/
def IdleFresh (b : BankNo) (s : State) : Prop :=
  s.banks[b].idleTimer = .stopped ∨ s.banks[b].idleTimer = .running s.regs.policy[b].retainDelay.toNat 0

theorem IdleFresh.of_kept {b : BankNo} {s t : State} (h : IdleFresh b s) (hr : t.regs = s.regs)
    (hb : t.banks[b].idleTimer = s.banks[b].idleTimer) : IdleFresh b t := by
  rw [IdleFresh, hr, hb]
  exact h

theorem IdleFresh.followed {b : BankNo} {s : State} (h : IdleFresh b s) :
    State.followTimer (s.idleConditions b) s.regs.policy[b].retainDelay.toNat s.banks[b].idleTimer =
      if s.idleConditions b then .running s.regs.policy[b].retainDelay.toNat 0 else .stopped := by
  unfold State.followTimer
  rcases h with h | h <;> rw [h] <;> rfl

/-- A settle from WAKING starts no idle timer. -/
theorem settleWaking_idle (s : State) (b : BankNo) (o : Rest) (h : s.banks[b].idleTimer = .stopped) :
    (s.settleWaking b o).banks[b].idleTimer = .stopped := by
  have enter : ∀ u : State, (u.enterClearing b o).banks[b].idleTimer = .stopped := fun u => by
    rw [State.enterClearing_banks, updAt_self]
  unfold State.settleWaking
  split
  · split
    · exact enter s
    · rw [State.setBank_same]
      exact h
  · dsimp only
    split
    · exact enter _
    · rw [State.setBank_same]
      show (s.setBank b fun k => { k with lost := true }).banks[b].idleTimer = .stopped
      rw [State.setBank_same]
      exact h

theorem wake_idle (s : State) (b : BankNo) (o : Rest) : (s.wake b o).banks[b].idleTimer = .stopped := by
  have h : ((s.requestLevel b .active (.waking o)).setBank b fun k =>
      { k with wakeCount := satInc k.wakeCount }).banks[b].idleTimer = .stopped := by
    rw [State.setBank_same, State.requestLevel_banks, updAt_self]
  unfold State.wake
  dsimp only
  split
  · exact settleWaking_idle _ b o h
  · exact h

theorem IdleFresh.step {b : BankNo} {s t : State} (h : IdleFresh b s) (hst : EndStep s t) : IdleFresh b t := by
  cases hst with
  | wake c o hf hc =>
    by_cases e : c = b
    · subst e
      exact .inl (wake_idle s c o)
    · exact h.of_kept (State.wake_regs s c o) (by rw [State.wake_other s o e])
  | pendWake c o hc =>
    refine h.of_kept rfl ?_
    by_cases e : c = b
    · subst e
      rw [State.setBank_same]
    · rw [State.setBank_other _ _ e]
  | grantEntry k hr hf hk =>
    exact h.of_kept (eventEnd_steps (.single (.grantEntry s k hr hf hk))).regs (by rw [(grantEntry_end hk).banks])
  | grantDrain i cls hr hf hi =>
    exact h.of_kept (eventEnd_steps (.single (.grantDrain s i cls hr hf hi))).regs (by rw [(grantDrain_end cls hi).banks])
  | timers c =>
    by_cases e : c = b
    · subst e
      rw [IdleFresh, State.refreshTimersOf, State.setBank_same]
      dsimp only
      rw [h.followed]
      split
      · exact .inr rfl
      · exact .inl rfl
    · refine h.of_kept rfl ?_
      rw [State.refreshTimersOf, State.setBank_other _ _ e]
  | _ => exact h

theorem IdleFresh.steps {b : BankNo} {s t : State} (h : IdleFresh b s) (hst : EndSteps s t) : IdleFresh b t := by
  induction hst with
  | refl => exact h
  | tail _ hs ih => exact ih.step hs

theorem IdleFresh.afterGrant {b : BankNo} {s : State} (h : IdleFresh b s) (pre : State) :
    (s.afterGrant pre).IdleTimerAfresh b := by
  have hr : (s.afterGrant pre).regs = s.regs := by rw [afterGrant_eq]
  rw [State.IdleTimerAfresh, (afterGrant_conditions s pre b).1, hr, afterGrant_bank]
  exact h.followed

/-- A bank whose idle timer the completion stopped has it afresh at the end of the event (R126, R82). -/
theorem finishCompletion_idle {s : State} {b : BankNo} (h : s.banks[b].idleTimer = .stopped) (pre : State)
    (released : Bool) : (s.finishCompletion pre released).IdleTimerAfresh b := by
  have hu : IdleFresh b (s.untilGrant pre released) :=
    IdleFresh.steps (s := s) (.inl h) (State.untilGrant_steps s pre released)
  unfold State.finishCompletion
  split
  · exact hu.afterGrant pre
  · exact (hu.steps (State.grant_steps _)).afterGrant pre

/-! ## The operation has ended -/

/-- A port that the completion left FREE is FREE at the end of the event, or holds the next operation (R126, R134). -/
theorem finishCompletion_ended {s u : State} (hf : u.port.inFlight = none) (hn : u.port.opNumber = s.port.opNumber)
    (pre : State) (released : Bool) : s.OperationEnded (u.finishCompletion pre released) := by
  have kept := (PortKept.untilGrant u pre released).port
  have free : (u.untilGrant pre released).port.inFlight = none := by rw [kept, hf]
  have number : (u.untilGrant pre released).port.opNumber = s.port.opNumber := by rw [kept, hn]
  have rests : s.OperationEnded ((u.untilGrant pre released).afterGrant pre) := by
    rw [afterGrant_eq]
    exact .inl ⟨free, number⟩
  unfold State.finishCompletion
  split
  · exact rests
  · rw [State.finish]
    rcases grant_issues (u.untilGrant pre released) with ⟨e, -⟩ | ⟨op, m, h⟩
    · rw [e]
      exact rests
    · rw [afterGrant_eq]
      exact .inr ⟨op, h.inFlight, by rw [h.number, number], h.opNumber⟩

/-! ## The routing of a drain write's completion, case by case -/

section
variable {s : State} {i : SlotNo} {l : Line}

theorem routeLine_notDraining (report : Report) (h : slotIs .draining s.store.slots[i] = false) :
    s.routeLine i report = s := by
  cases hl : s.store.slots[i] with
  | none => simp only [State.routeLine, hl]
  | some l =>
    cases hs : l.state with
    | held => simp only [State.routeLine, hl, hs]
    | draining => simp [slotIs, hl, hs] at h

variable (hl : s.store.slots[i] = some l) (hd : l.state = .draining)
include hl hd

theorem routeLine_renewed (hr : l.redirty = true) : s.routeLine i .ok = s.renewed i := by
  simp only [State.routeLine, hl, hd, hr]

theorem routeLine_drained (hr : l.redirty = false) : s.routeLine i .ok = s.drained i l := by
  simp only [State.routeLine, hl, hd, hr]

theorem routeLine_failed : s.routeLine i .error = s.drainFailed i l := by
  simp only [State.routeLine, hl, hd]

end

theorem routeLine_banks (s : State) (i : SlotNo) (report : Report) : (s.routeLine i report).banks = s.banks := by
  unfold State.routeLine
  split
  · rfl
  · split
    · rfl
    · simp [State.drained]
    · rfl
    · simp [State.drainFailed]

theorem routeLine_queue (s : State) (i : SlotNo) (report : Report) : (s.routeLine i report).queue = s.queue := by
  unfold State.routeLine
  split
  · rfl
  · split
    · rfl
    · simp [State.drained]
    · rfl
    · simp [State.drainFailed]

/-! ## A slot freed at the end of its drain (R12, R14, R104, R176) -/

/-- A line has left its slot, its bank's causes and RECOVER with it where it was the last. -/
structure LineFreed (s u : State) (i : SlotNo) (l : Line) : Prop where
  slot : u.store.slots[i] = none
  ageList : u.store.ageList = s.store.ageList.erase i
  mode : u.mode = if s.mode = .recover ∧ s.store.fill = 1 then .normal else s.mode
  lineless : s.lineCount l.bank = 1 → u.lineCount l.bank = 0
  causes : s.lineCount l.bank = 1 → u.causes[l.bank] = DrainCauses.none
  queue : u.queue = s.queue

theorem lineFreed_of {s x : State} {i : SlotNo} {l : Line} (hl : s.store.slots[i] = some l)
    (hs : x.store.slots = (s.store.free i).slots) (ha : x.store.ageList = s.store.ageList.erase i) (hm : x.mode = s.mode)
    (hq : x.queue = s.queue) : LineFreed s (x.afterFreeing l.bank) i l := by
  have hf : x.store.fill + 1 = s.store.fill := by
    rw [LineStore.fill, hs]
    exact LineStore.free_fill hl
  have hc : s.lineCount l.bank = 1 → x.lineCount l.bank = 0 := by
    have := LineStore.free_lineCount hl l.bank
    rw [beq_self_eq_true, Bool.toNat_true] at this
    have hx : x.lineCount l.bank = (s.store.free i).lineCount l.bank := by
      rw [State.lineCount, LineStore.lineCount, hs, LineStore.lineCount]
    rw [hx]
    exact fun h => Nat.add_right_cancel (this.trans h)
  refine ⟨?_, ?_, ?_, fun h => ?_, fun h => ?_, ?_⟩
  · rw [State.afterFreeing_store, hs]
    exact updAt_self _ _ _
  · rw [State.afterFreeing_store, ha]
  · rw [afterFreeing_mode, hm]
    have he : x.store.fill = 0 ↔ s.store.fill = 1 := by omega
    simp only [he]
  · rw [State.lineCount, State.afterFreeing_store]
    exact hc h
  · rw [afterFreeing_causes, if_pos (hc h), updAt_self]
  · rw [State.afterFreeing_queue, hq]

theorem drained_freed {s : State} {i : SlotNo} {l : Line} (hl : s.store.slots[i] = some l) :
    LineFreed s (s.drained i l) i l := lineFreed_of hl rfl rfl rfl rfl

theorem drainFailed_freed {s : State} {i : SlotNo} {l : Line} (hl : s.store.slots[i] = some l) :
    LineFreed s (s.drainFailed i l) i l := by
  unfold State.drainFailed
  refine lineFreed_of hl ?_ ?_ ?_ ?_ <;> simp [LineStore.free]

/-- A freed slot stays FREE where no request waits, and its bank without causes. -/
theorem LineFreed.tail {s u t : State} {i : SlotNo} {l : Line} (h : LineFreed s u i l) (ht : TailEnd u t) :
    t.store.slots[i] = none ∧ t.store.ageList = s.store.ageList.erase i ∧
      (s.lineCount l.bank = 1 → t.causes[l.bank] = DrainCauses.none) := by
  refine ⟨?_, ht.quiet.ageList.trans h.ageList, fun hc => (ht.lineless _ (h.lineless hc)).trans (h.causes hc)⟩
  rcases ht.slots i with e | ⟨l', hl', -⟩
  · rw [e, h.slot]
  · rw [h.slot] at hl'
    cases hl'

/-! ## The completion of a drain write -/

section
variable {s : State} {op : InFlight} {i : SlotNo}

theorem exec_lineCompletion (hf : s.port.inFlight = some op) (hp : op.presenter = .slot i) (report : Report)
    (data : Vector Word 8) : exec (.completion op.number report data) s =
      .next (((s.endOperation op.bank).routeLine i report).finishCompletion s op.kind.isWord) := by
  show execCompletion op.number report data s = _
  rw [execCompletion, hf]
  dsimp only
  rw [if_pos rfl, State.route, hp]

/-- Whatever its report, the operation ends and its bank's idle timer starts afresh. -/
theorem lineCompletion_ends (s : State) (op : InFlight) (i : SlotNo) (report : Report) :
    s.OperationEnded (((s.endOperation op.bank).routeLine i report).finishCompletion s op.kind.isWord) ∧
      (((s.endOperation op.bank).routeLine i report).finishCompletion s op.kind.isWord).IdleTimerAfresh op.bank := by
  have frame := routeLine_frame (s.endOperation op.bank) i report
  refine ⟨finishCompletion_ended (by rw [frame.port]; rfl) (by rw [frame.port]; rfl) _ _, finishCompletion_idle ?_ _ _⟩
  rw [routeLine_banks, State.endOperation, State.setBank_same]

end

/-- The line of a renewed slot (R13). -/
def renewedLine (now : BitVec 16) (l : Line) : Line :=
  { l with state := .held, allocatedAt := now, age := 0, ageRuns := false, contributors := l.drainContributors,
           drainContributors := 0, redirty := false }

theorem renewed_slot {s : State} {i : SlotNo} {l : Line} (h : s.store.slots[i] = some l) :
    (s.renewed i).store.slots[i] = some (renewedLine s.clock.msTime l) := by
  show (s.store.onLine i (renewedLine s.clock.msTime)).slots[i] = _
  rw [LineStore.onLine_slot, if_pos rfl, h, Option.map_some]

/-- Settles O32: the routing of the completion to its slot, case by case, and what the end of the event keeps of each. -/
theorem drainCompletionFreesRenewsOrRecords : Obligations.DrainCompletionFreesRenewsOrRecords := by
  intro s op i report data hf hp
  have exec_eq := exec_lineCompletion hf hp report data
  obtain ⟨operation, idle⟩ := lineCompletion_ends s op i report
  have ended := finishCompletion_eventEnd ((s.endOperation op.bank).routeLine i report) s op.kind.isWord
  have tail : s.queue = [] → TailEnd ((s.endOperation op.bank).routeLine i report)
      (((s.endOperation op.bank).routeLine i report).finishCompletion s op.kind.isWord) := fun hq =>
    finishCompletion_tail (State.runQueue_empty _ (by rw [routeLine_queue]; exact hq))
  generalize ((s.endOperation op.bank).routeLine i report).finishCompletion s op.kind.isWord = t at *
  refine ⟨fun h => ?_, fun l hl hd => ⟨t, exec_eq, operation, idle, fun hr hy => ?_, fun hr => ?_, fun hr hy => ?_,
    fun hr => ?_⟩⟩
  · rw [routeLine_notDraining (s := s.endOperation op.bank) report h] at ended tail
    exact ⟨t, exec_eq, ended.faults, ended.mode, ended.drainedLines, fun hq => (tail hq).quiet.ageList, operation, idle⟩
  · subst hr
    rw [routeLine_renewed (s := s.endOperation op.bank) hl hd hy] at ended tail
    have slot : ((s.endOperation op.bank).renewed i).store.slots[i] = some (renewedLine s.clock.msTime l) :=
      renewed_slot (s := s.endOperation op.bank) hl
    obtain ⟨l', hl', kept⟩ := ended.slots i _ slot
    refine ⟨ended.drainedLines, ended.faults, ended.mode, ended.ages, l', hl', kept.addr, kept.allocatedAt, kept.age,
      kept.ageRuns, kept.valid, fun hq => ?_⟩
    rcases (tail hq).slots i with e | ⟨m, hm, -, e⟩
    · rw [hl', slot] at e
      cases e
      exact ⟨rfl, rfl⟩
    · rw [slot] at hm
      cases hm
      rw [hl'] at e
      cases e
      exact ⟨rfl, rfl⟩
  · have freed : LineFreed (s.endOperation op.bank) ((s.endOperation op.bank).routeLine i report) i l := by
      cases report with
      | ok =>
        rw [routeLine_drained (s := s.endOperation op.bank) hl hd (hr.resolve_left (by decide))]
        exact drained_freed hl
      | error =>
        rw [routeLine_failed (s := s.endOperation op.bank) hl hd]
        exact drainFailed_freed hl
    exact ⟨ended.mode.trans freed.mode, fun hq => freed.tail (tail hq)⟩
  · subst hr
    rw [routeLine_drained (s := s.endOperation op.bank) hl hd hy] at ended
    exact ⟨ended.drainedLines.trans (by simp [State.drained]; rfl), ended.faults.trans (by simp [State.drained]; rfl)⟩
  · subst hr
    rw [routeLine_failed (s := s.endOperation op.bank) hl hd] at ended
    refine ⟨ended.drainedLines.trans (by simp [State.drainFailed, LineStore.free]; rfl), ended.faults.trans ?_⟩
    rw [State.drainFailed, State.afterFreeing_faults]
    exact handFault_faults_congr _ rfl rfl

end Sys2Proof.Machine

/-! A request taken with no earlier entry of its initiator: each outcome of the decision, through the end of its event
(R39, R30, R44 to R48). -/

namespace Sys2Proof.Machine

/-! ## A wake demand under the handshake -/

/-- A bank at rest that agrees with its lines is not settled at ACTIVE when it is raised, so it is WAKING (R74, R78). -/
theorem wake_waking {s : State} {b : BankNo} {o : Rest} (h : s.HandshakeOf b) (hb : s.bankState b = o.state) :
    (s.wake b o).bankState b = .waking o := by
  have hr : s.banks[b].reported = o.level.status := by
    unfold State.HandshakeOf at h
    rw [hb] at h
    cases o <;>
    · obtain ⟨hreq, hat, -⟩ := h
      rw [BankRecord.atRequest, hreq, Bool.and_eq_true, beq_iff_eq] at hat
      exact hat.2
  have hk : ((s.requestLevel b .active (.waking o)).setBank b fun k =>
      { k with wakeCount := satInc k.wakeCount }).banks[b].atRequest = false := by
    rw [State.setBank_same, State.requestLevel_banks, updAt_self]
    simp only [BankRecord.atRequest, hr]
    cases o <;> simp [Rest.level, Level.status]
  unfold State.wake
  dsimp only
  rw [hk, if_neg (by decide), State.bankState, State.setBank_same, State.requestLevel_banks, updAt_self]

section
variable {s : State} {b : BankNo} (hf : s.fitted b = true)
include hf

theorem demand_rest {o : Rest} (hb : s.bankState b = o.state) : s.demand b = s.wake b o := by
  rw [State.demand, if_pos hf]
  cases o <;> rw [hb] <;> rfl

theorem demand_descending {o : Rest} (hb : s.bankState b = .descending o) :
    s.demand b = s.setBank b fun k => { k with pendingWake := true } := by
  rw [State.demand, if_pos hf, hb]

end

/-- A bank that agrees with its lines enters neither ACTIVE nor STUCK by a wake demand. -/
theorem demand_enters_nothing {s : State} {b : BankNo} (h : s.HandshakeOf b) (c : BankNo) :
    ((s.demand b).bankState c = .active → s.bankState c = .active) ∧
      (((s.demand b).bankState c).isStuck = true → (s.bankState c).isStuck = true) := by
  by_cases e : b = c
  · subst e
    cases hf : s.fitted b with
    | false =>
      rw [State.demand, if_neg (by rw [hf]; decide)]
      exact ⟨id, id⟩
    | true =>
      have wakes : ∀ o : Rest, s.bankState b = o.state →
          ((s.demand b).bankState b = .active → s.bankState b = .active) ∧
            (((s.demand b).bankState b).isStuck = true → (s.bankState b).isStuck = true) := by
        intro o hb
        rw [demand_rest hf hb, wake_waking h hb]
        exact ⟨fun h => (nomatch h), fun h => (nomatch h)⟩
      cases hb : s.bankState b with
      | off => exact hb ▸ wakes .off hb
      | retain => exact hb ▸ wakes .retain hb
      | descending o =>
        rw [demand_descending hf hb, State.bankState, State.setBank_same, ← State.bankState, hb]
        exact ⟨id, id⟩
      | _ =>
        rw [State.demand, if_pos hf, hb]
        simp only [hb]
        exact ⟨id, id⟩
  · rw [State.bankState, State.demand_other s e]
    exact ⟨id, id⟩

/-! ## The outcome is taken, and the queue rests -/

/-- A slot that a merge or an allocation finds occupied stays so. -/
theorem updAt_isSome {n : Nat} {v : Vector (Option Line) n} {i j : Fin n} {f : Option Line → Option Line}
    (hf : ∀ o, o.isSome = true → (f o).isSome = true) (h : (v[j]).isSome = true) : ((updAt v i f)[j]).isSome = true := by
  by_cases e : i = j
  · subst e
    rw [updAt_self]
    exact hf _ h
  · rw [updAt_ne _ _ e]
    exact h

/-- The effect of an outcome is no release event where the bank agrees with its lines (R60). -/
theorem perform_rests {s w : State} {r : Request} (v : Verdict) (h : w.HandshakeOf r.bank) (hb : w.banks = s.banks)
    (hh : w.faults = s.faults) (hp : w.pins = s.pins) (hs : w.store = s.store) :
    State.runQueue s false (w.perform r v) = w.perform r v := by
  have state : ∀ b, w.bankState b = s.bankState b := fun b => by rw [State.bankState, State.bankState, hb]
  have kept : ∀ b : BankNo, (w.bankState b = .active → s.bankState b = .active) ∧
      ((w.bankState b).isStuck = true → (s.bankState b).isStuck = true) := fun b => by
    rw [state]
    exact ⟨id, id⟩
  have hold : w.faults.hold = s.faults.hold := by rw [hh]
  have pass : w.pins.fltpass = s.pins.fltpass := by rw [hp]
  have slots : ∀ i : SlotNo, (s.store.slots[i]).isSome = true → (w.store.slots[i]).isSome = true := fun i h => by rwa [hs]
  cases v with
  | merged i =>
    exact State.runQueue_rests kept hold pass fun j hj => updAt_isSome (fun o ho => by simpa using ho) (slots j hj)
  | allocated i => exact State.runQueue_rests kept hold pass fun j hj => updAt_isSome (fun _ _ => rfl) (slots j hj)
  | held reason =>
    cases reason with
    | bank =>
      have hd := demand_enters_nothing h
      refine State.runQueue_rests (s := w.demand r.bank) (fun b => ?_) ?_ ?_ fun j hj => ?_
      · rw [← state]
        exact hd b
      · rw [State.demand_faults, hold]
      · rw [State.demand_pins, pass]
      · rw [State.demand_store]
        exact slots j hj
    | _ => exact State.runQueue_rests kept hold pass slots
  | _ => exact State.runQueue_rests kept hold pass slots

theorem firstEvaluation_rests {s : State} {r : Request} (h : s.HandshakeOf r.bank) :
    State.runQueue s false (s.firstEvaluation r) = s.firstEvaluation r := by
  cases hv : (s.judge r).entryStatus with
  | none =>
    rw [State.firstEvaluation_answered s r hv]
    exact perform_rests _ h rfl rfl rfl rfl
  | some st =>
    rw [State.firstEvaluation_entered s r st hv]
    exact perform_rests (w := s.appendEntry r st) _ h rfl rfl rfl rfl

theorem exec_requestTaken {s : State} {r : Request} (hp : r.presentable = true) (hr : s.pins.resetn = false)
    (hq : s.queue.length < 16) (hn : s.unanswered r.initiator = 0) :
    exec (.requestTaken r) s = .next ((s.firstEvaluation r).finish s false) := by
  have may : s.mayTake r = true := by simp [State.mayTake, hr, hn, Config.holdCapacity, Config.unansweredLimit, hq]
  show execRequestTaken r s = _
  rw [execRequestTaken, if_pos hp, if_pos may, State.takeRequest, if_pos hn]

/-- A request whose outcome holds it is for a fitted bank (R32, R72). -/
theorem fitted_of_held {s : State} {r : Request} {reason : WaitReason} (h : s.judge r = .held reason) :
    s.fitted r.bank = true := by
  cases hd : s.decodeFault r with
  | true =>
    rw [State.judge_decodeFault hd] at h
    cases h
  | false =>
    obtain ⟨-, -, hb⟩ := State.decodeFault_eq_false_iff.1 hd
    exact decide_eq_true hb

/-! ## What the end of the event keeps of an outcome -/

namespace TailEnd

/-- The entry that joined the tail keeps its status, or is READY and now ISSUED. -/
theorem last_status {u t : State} (ht : TailEnd u t) {q : List Entry} {r : Request} {st : EntryStatus}
    (hu : u.queue = q ++ [⟨r, st⟩]) : t.queue.map Entry.request = q.map Entry.request ++ [r] ∧
      (t.queue.getLast?.map Entry.status = some st ∨ (st = .ready ∧ t.queue.getLast?.map Entry.status = some .issued)) := by
  have requests : t.queue.map Entry.request = q.map Entry.request ++ [r] := by
    rw [ht.quiet.requests, hu]
    simp
  have len : t.queue.length = q.length + 1 := by simpa using congrArg List.length requests
  have last : t.queue.getLast? = t.queue[q.length]? := by rw [List.getLast?_eq_getElem?, len]; rfl
  refine ⟨requests, ?_⟩
  rw [last]
  rcases ht.statuses q.length ⟨r, st⟩ (by rw [hu]; simp) with e | ⟨hst, e⟩ <;> rw [e]
  · exact .inl rfl
  · exact .inr ⟨hst, rfl⟩

/-- The line of a slot stays, but that its drain may start. -/
theorem line {u t : State} (ht : TailEnd u t) {i : SlotNo} {l : Line} (hl : u.store.slots[i] = some l) :
    t.store.slots[i] = some l ∨ (l.state = .held ∧
      t.store.slots[i] = some { l with state := .draining, drainContributors := 0, redirty := false }) := by
  rcases ht.slots i with e | ⟨m, hm, hh, e⟩
  · exact .inl (e.trans hl)
  · cases hl.symm.trans hm
    exact .inr ⟨hh, e⟩

end TailEnd

/-- What a merge makes of a line (R8, R9). -/
theorem mergedLine_fields (r : Request) (l : Line) : (LineStore.mergedLine r l).addr = l.addr ∧
    (LineStore.mergedLine r l).bytes = mergeBytes r l.bytes ∧ (LineStore.mergedLine r l).allocatedAt = l.allocatedAt ∧
    (LineStore.mergedLine r l).age = l.age ∧ (LineStore.mergedLine r l).ageRuns = l.ageRuns ∧
    (LineStore.mergedLine r l).contributors = addInitiator l.contributors r.initiator := by
  unfold LineStore.mergedLine
  dsimp only
  split <;> exact ⟨rfl, rfl, rfl, rfl, rfl, rfl⟩

theorem mergedLine_draining {r : Request} {l : Line} (h : l.state = .draining) :
    (LineStore.mergedLine r l).state = .draining ∧ (LineStore.mergedLine r l).redirty = true ∧
      (LineStore.mergedLine r l).drainContributors = addInitiator l.drainContributors r.initiator := by
  simp only [LineStore.mergedLine, h, and_self]

/-- The line that an allocation puts into its slot (R7). -/
theorem allocate_slot (st : LineStore) (i : SlotNo) (r : Request) (now : BitVec 16) :
    (st.allocate i r now).slots[i] = some
      { state := .held, addr := r.line, bytes := mergeBytes r noBytes, allocatedAt := now, age := 0, ageRuns := false,
        contributors := addInitiator 0 r.initiator, drainContributors := 0, redirty := false } := by
  rw [LineStore.allocate, updAt_self]

/-- A merge into a slot, through the end of its event. -/
theorem TailEnd.merged {s t : State} {i : SlotNo} {r : Request} (ht : TailEnd (s.perform r (.merged i)) t) (l : Line)
    (hl : s.store.slots[i] = some l) : ∃ l', t.store.slots[i] = some l' ∧ l'.addr = l.addr ∧
      l'.bytes = mergeBytes r l.bytes ∧ l'.allocatedAt = l.allocatedAt ∧ l'.age = l.age ∧ l'.ageRuns = l.ageRuns ∧
      l'.contributors = addInitiator l.contributors r.initiator ∧
      (l.state = .draining → l'.state = .draining ∧ l'.redirty = true ∧
        l'.drainContributors = addInitiator l.drainContributors r.initiator) := by
  have slot : (s.perform r (.merged i)).store.slots[i] = some (LineStore.mergedLine r l) := by
    show (s.store.onLine i (LineStore.mergedLine r)).slots[i] = _
    rw [LineStore.onLine_slot, if_pos rfl, hl, Option.map_some]
  obtain ⟨ha, hb, hat, hg, hr, hc⟩ := mergedLine_fields r l
  rcases ht.line slot with e | ⟨hh, e⟩
  · exact ⟨_, e, ha, hb, hat, hg, hr, hc, mergedLine_draining⟩
  · refine ⟨_, e, ha, hb, hat, hg, hr, hc, fun hd => ?_⟩
    rw [(mergedLine_draining hd).1] at hh
    cases hh

/-- An allocation of a slot, through the end of its event. -/
theorem TailEnd.allocated {s t : State} {i : SlotNo} {r : Request} (ht : TailEnd (s.perform r (.allocated i)) t) :
    ∃ l', t.store.slots[i] = some l' ∧ l'.addr = r.line ∧ l'.bytes = mergeBytes r noBytes ∧
      l'.allocatedAt = s.clock.msTime ∧ l'.age = 0 ∧ l'.ageRuns = false ∧
      l'.contributors = addInitiator 0 r.initiator := by
  rcases ht.line (allocate_slot s.store i r s.clock.msTime) with e | ⟨-, e⟩ <;>
    exact ⟨_, e, rfl, rfl, rfl, rfl, rfl, rfl⟩

/-- What a wake demand leaves of its bank, through the end of its event (R77, R78). -/
theorem demand_ends {s t : State} {b : BankNo} (hf : s.fitted b = true) (h : s.HandshakeOf b) (ht : EventEnd (s.demand b) t) :
    (s.bankState b = .off → t.bankState b = .waking .off) ∧
      (s.bankState b = .retain → t.bankState b = .waking .retain) ∧
      ((s.bankState b = .descending .off ∨ s.bankState b = .descending .retain) → t.banks[b].pendingWake = true) := by
  have wakes : ∀ o : Rest, s.bankState b = o.state → t.bankState b = .waking o := by
    intro o hb
    have hw := wake_waking h hb
    have hk := (ht.bank b).stays
    rw [demand_rest hf hb] at hk
    rw [State.bankState] at hw
    have kept : TimersOnly (s.wake b o).banks[b] t.banks[b] := hk (by rw [hw]; rfl)
    exact kept.state.trans hw
  have pends : ∀ o : Rest, s.bankState b = .descending o → t.banks[b].pendingWake = true := by
    intro o hb
    have hk := (ht.bank b).descending o
    rw [demand_descending hf hb, State.setBank_same] at hk
    exact (hk hb).2 rfl
  exact ⟨wakes .off, wakes .retain, fun hb => hb.elim (pends .off) (pends .retain)⟩

/-- Settles O25: the event of a first evaluation leaves the queue to rest, so that its outcome stands at the end of it. -/
theorem firstEvaluationTakesItsOutcome : Obligations.FirstEvaluationTakesItsOutcome := by
  intro r s hp hr hq hn hh
  have tail := finish_tail (firstEvaluation_rests hh)
  have ended := finish_eventEnd (s.firstEvaluation r) s false
  refine ⟨_, exec_requestTaken hp hr hq hn, ?_⟩
  generalize (s.firstEvaluation r).finish s false = t at *
  have quiet := tail.quiet
  cases hj : s.judge r with
  | forwarded =>
    rw [State.firstEvaluation_entered s r .ready (by rw [hj]; rfl), hj] at tail quiet
    obtain ⟨requests, status⟩ := tail.last_status (q := s.queue) rfl
    exact ⟨quiet.responses, requests, status.imp_right And.right⟩
  | held reason =>
    rw [State.firstEvaluation_entered s r (.waiting reason) (by rw [hj]; rfl), hj] at tail quiet ended
    have hu : ((s.appendEntry r (.waiting reason)).perform r (.held reason)).queue = s.queue ++ [⟨r, .waiting reason⟩] := by
      cases reason with
      | bank => exact State.demand_queue _ _
      | _ => rfl
    have ho : ((s.appendEntry r (.waiting reason)).perform r (.held reason)).out = s.out := by
      cases reason with
      | bank => exact State.demand_out _ _
      | _ => rfl
    obtain ⟨requests, status⟩ := tail.last_status hu
    refine ⟨quiet.responses.trans (by rw [ho]), requests, status.resolve_right fun h => (nomatch h.1), fun hb => ?_⟩
    subst hb
    exact demand_ends (s := s.appendEntry r (.waiting .bank)) (fitted_of_held hj) hh ended
  | merged i =>
    rw [State.firstEvaluation_answered s r (by rw [hj]; rfl), hj] at tail quiet
    exact ⟨quiet.responses, quiet.requests, quiet.ageList, quiet.absorbed, quiet.served, tail.merged⟩
  | allocated i =>
    rw [State.firstEvaluation_answered s r (by rw [hj]; rfl), hj] at tail quiet
    exact ⟨quiet.responses, quiet.requests, quiet.ageList, quiet.absorbed, quiet.served,
      tail.wanted r.bank (updAt_self _ _ _), tail.allocated⟩
  | _ =>
    rw [State.firstEvaluation_answered s r (by rw [hj]; rfl), hj] at quiet
    exact ⟨quiet.responses, quiet.requests, quiet.ageList, quiet.absorbed, quiet.served⟩

end Sys2Proof.Machine

/-! Responses leave in the order taken (law L6: R70, R30, R57). An entry that has been evaluated is the first of its
initiator, and only an entry that is the first of its initiator is answered; so what has been answered and what waits,
together in one list, stay as they are but for a request taken. -/

namespace Sys2Proof.Machine

namespace State

/-! ## The order of an initiator's requests -/

/-- The tags of an initiator's requests taken so far: those answered, then those that wait. -/
def takenTags (s : State) (i : Initiator) : List (BitVec 4) := s.sentTags i ++ s.waitingTags i

/-- No entry that has been evaluated and not failed, READY or ISSUED, stands behind an entry of its initiator (R54, R65). -/
def EvaluatedFirst (s : State) : Prop :=
  s.queue.Pairwise fun e e' => e'.request.initiator = e.request.initiator → e'.status ≠ .ready ∧ e'.status ≠ .issued

theorem sentTags_congr {s t : State} (h : t.out.responses = s.out.responses) (i : Initiator) : t.sentTags i = s.sentTags i := by
  rw [sentTags, h, sentTags]

theorem waitingTags_eq (s : State) (i : Initiator) :
    s.waitingTags i = ((s.queue.map Entry.request).filter fun r => r.initiator == i).map Request.tag := by
  rw [waitingTags, List.filter_map, List.map_map]
  rfl

theorem waitingTags_congr {s t : State} (h : t.queue.map Entry.request = s.queue.map Entry.request) (i : Initiator) :
    t.waitingTags i = s.waitingTags i := by
  rw [waitingTags_eq, h, waitingTags_eq]

theorem sentTags_answered {s t : State} {r : Request} {code : Code} {data : List Word}
    (h : t.out.responses = s.out.responses ++ [⟨r.initiator, r.tag, code, data⟩]) (i : Initiator) :
    t.sentTags i = s.sentTags i ++ if r.initiator = i then [r.tag] else [] := by
  by_cases e : r.initiator = i <;> simp [sentTags, h, List.filter_append, e]

theorem waitingTags_entered {s t : State} {r : Request}
    (h : t.queue.map Entry.request = s.queue.map Entry.request ++ [r]) (i : Initiator) :
    t.waitingTags i = s.waitingTags i ++ if r.initiator = i then [r.tag] else [] := by
  by_cases e : r.initiator = i <;> simp [waitingTags_eq, h, List.filter_append, e]

theorem atHead_iff (s : State) (k : Nat) (e : Entry) :
    s.atHead k e = true ↔ ∀ j < k, ∀ e', s.queue[j]? = some e' → e'.request.initiator ≠ e.request.initiator := by
  simp only [atHead, List.all_eq_true, bne_iff_ne, List.mem_take_iff_getElem]
  constructor
  · intro h j hj e' he'
    obtain ⟨hl, rfl⟩ := List.getElem?_eq_some_iff.mp he'
    exact h _ ⟨j, by omega, rfl⟩
  · rintro h _ ⟨j, hj, rfl⟩
    exact h j (by omega) _ (List.getElem?_eq_getElem (by omega))

/-- The entry that leaves from the head of its initiator is the first of its initiator's waiting requests. -/
theorem waitingTags_removed {s : State} {k : Nat} {e : Entry} (he : s.queue[k]? = some e) (hh : s.atHead k e = true)
    (i : Initiator) :
    s.waitingTags i = (if e.request.initiator = i then [e.request.tag] else []) ++ (s.removeEntry k).waitingTags i := by
  have older : e.request.initiator = i → (s.queue.take k).filter (fun e' => e'.request.initiator == i) = [] := by
    rintro rfl
    rw [List.filter_eq_nil_iff]
    intro e' he'
    simpa using List.all_eq_true.mp hh e' he'
  obtain ⟨hk, rfl⟩ := List.getElem?_eq_some_iff.mp he
  have whole : s.queue = s.queue.take k ++ s.queue[k] :: s.queue.drop (k + 1) := by simp
  have rest : (s.removeEntry k).queue = s.queue.take k ++ s.queue.drop (k + 1) := List.eraseIdx_eq_take_drop_succ _ _
  have parts : s.waitingTags i = ((s.queue.take k ++ s.queue[k] :: s.queue.drop (k + 1)).filter
      fun e => e.request.initiator == i).map fun e => e.request.tag := by rw [← whole, waitingTags]
  rw [parts, waitingTags, rest, List.filter_append, List.filter_append, List.filter_cons]
  by_cases ei : s.queue[k].request.initiator = i
  · simp [older ei, ei]
  · simp [ei]

/-- In a queue in order an evaluated entry is the first of its initiator. -/
theorem EntriesInOrder.evaluatedFirst {s : State} (h : s.EntriesInOrder) : s.EvaluatedFirst := by
  rw [EvaluatedFirst, List.pairwise_iff_getElem]
  intro j k hj hk hlt hi
  have behind : s.atHead k s.queue[k] = false := by
    rw [Bool.eq_false_iff]
    intro hh
    exact (atHead_iff s k _).mp hh j hlt _ (List.getElem?_eq_getElem hj) hi.symm
  rcases (h k _ (List.getElem?_eq_getElem hk)).2 behind with e | e <;> rw [e] <;> exact ⟨nofun, nofun⟩

theorem EvaluatedFirst.atHead {s : State} (h : s.EvaluatedFirst) {k : Nat} {e : Entry} (he : s.queue[k]? = some e)
    (hs : e.status = .ready ∨ e.status = .issued) : s.atHead k e = true := by
  rw [atHead_iff]
  intro j hj e' he' hi
  obtain ⟨hk, rfl⟩ := List.getElem?_eq_some_iff.mp he
  obtain ⟨hj', rfl⟩ := List.getElem?_eq_some_iff.mp he'
  obtain ⟨hr, hs'⟩ := List.pairwise_iff_getElem.mp h j k hj' hk hj hi.symm
  exact hs.elim hr hs'

end State

/-- Between `s` and `t` no request is taken and none discarded, and those answered were the first of their initiator. -/
def AnswersInOrder (s t : State) : Prop :=
  s.EvaluatedFirst → t.EvaluatedFirst ∧ ∀ i, t.takenTags i = s.takenTags i

namespace AnswersInOrder

theorem refl (s : State) : AnswersInOrder s s := fun h => ⟨h, fun _ => rfl⟩

theorem trans {s t u : State} (h : AnswersInOrder s t) (h' : AnswersInOrder t u) : AnswersInOrder s u := by
  intro hs
  obtain ⟨ht, tags⟩ := h hs
  obtain ⟨hu, tags'⟩ := h' ht
  exact ⟨hu, fun i => (tags' i).trans (tags i)⟩

/-- An operation that leaves the queue and the outputs alone. -/
theorem of_blocks {s t : State} (hq : t.queue = s.queue) (ho : t.out.responses = s.out.responses) : AnswersInOrder s t := by
  intro hs
  refine ⟨by rwa [State.EvaluatedFirst, hq], fun i => ?_⟩
  simp only [State.takenTags, State.sentTags_congr ho, State.waitingTags_congr (congrArg _ hq)]

theorem foldl {α : Type} {f : State → α → State} (hf : ∀ s a, AnswersInOrder s (f s a)) (l : List α) (s : State) :
    AnswersInOrder s (l.foldl f s) := by
  induction l generalizing s with
  | nil => exact .refl s
  | cons a l ih => exact (hf s a).trans (ih _)

/-- Statuses change and no entry becomes READY or ISSUED by it. -/
theorem of_map {s t : State} {f : Entry → Entry} (hq : t.queue = s.queue.map f)
    (ho : t.out.responses = s.out.responses)
    (hr : ∀ e, (f e).request = e.request)
    (hf : ∀ e, e.status ≠ .ready ∧ e.status ≠ .issued → (f e).status ≠ .ready ∧ (f e).status ≠ .issued) :
    AnswersInOrder s t := by
  intro hs
  refine ⟨?_, fun i => ?_⟩
  · rw [State.EvaluatedFirst, hq, List.pairwise_map]
    refine hs.imp fun {e e'} h => ?_
    rw [hr, hr]
    exact fun hi => hf e' (h hi)
  · have requests : t.queue.map Entry.request = s.queue.map Entry.request := by
      rw [hq, List.map_map]
      exact List.map_congr_left fun e _ => hr e
    simp only [State.takenTags, State.sentTags_congr ho, State.waitingTags_congr requests]

/-- The entry at the head of its initiator takes any status. -/
theorem setStatus {s : State} {k : Nat} {e : Entry} (he : s.queue[k]? = some e) (hh : s.atHead k e = true)
    (st : EntryStatus) : AnswersInOrder s (s.setStatus k st) := by
  intro hs
  refine ⟨?_, fun i => ?_⟩
  · rw [State.EvaluatedFirst, List.pairwise_iff_getElem] at hs ⊢
    have same : ∀ j (h : j < (s.setStatus k st).queue.length) (h' : j < s.queue.length),
        (s.setStatus k st).queue[j].request = s.queue[j].request := by
      intro j h h'
      simp only [State.setStatus_queue, List.getElem_modify]
      split <;> rfl
    intro j l hj hl hlt hi
    have hj' : j < s.queue.length := by simpa using hj
    have hl' : l < s.queue.length := by simpa using hl
    rw [same j hj hj', same l hl hl'] at hi
    by_cases ek : k = l
    · subst ek
      obtain ⟨_, hk⟩ := List.getElem?_eq_some_iff.mp he
      rw [hk] at hi
      exact absurd hi.symm ((State.atHead_iff s k e).mp hh j hlt _ (List.getElem?_eq_getElem hj'))
    · simpa only [State.setStatus_queue, List.getElem_modify, ek, if_false] using hs j l hj' hl' hlt hi
  · rw [State.takenTags, State.waitingTags_congr (setStatus_requests s k st)]
    rfl

/-- The entry at the head of its initiator is answered and leaves. -/
theorem answered {s t : State} {k : Nat} {e : Entry} {code : Code} {data : List Word} (he : s.queue[k]? = some e)
    (hh : s.atHead k e = true) (hq : t.queue = s.queue.eraseIdx k)
    (ho : t.out.responses = s.out.responses ++ [⟨e.request.initiator, e.request.tag, code, data⟩]) : AnswersInOrder s t := by
  intro hs
  refine ⟨?_, fun i => ?_⟩
  · rw [State.EvaluatedFirst, hq]
    exact hs.sublist (List.eraseIdx_sublist _ _)
  · have left : t.waitingTags i = (s.removeEntry k).waitingTags i := State.waitingTags_congr (by rw [hq]; rfl) i
    rw [State.takenTags, State.takenTags, State.sentTags_answered ho, left, State.waitingTags_removed he hh, List.append_assoc]

end AnswersInOrder

/-! ## The end of an event -/

namespace State

/-- An outcome that answers sends one response, and the queue stays. -/
theorem perform_answers {s : State} {r : Request} {v : Verdict} (h : v.entryStatus = none) :
    (s.perform r v).queue = s.queue ∧
      ∃ code data, (s.perform r v).out.responses = s.out.responses ++ [⟨r.initiator, r.tag, code, data⟩] := by
  cases v with
  | forwarded => cases h
  | held reason => cases h
  | _ => exact ⟨rfl, _, _, rfl⟩

/-- An outcome that enters or keeps a request sends nothing, and the queue stays. -/
theorem perform_enters {s : State} {r : Request} {v : Verdict} {st : EntryStatus} (h : v.entryStatus = some st) :
    (s.perform r v).queue = s.queue ∧ (s.perform r v).out = s.out := by
  cases v with
  | forwarded => exact ⟨rfl, rfl⟩
  | held reason =>
    cases reason with
    | bank => exact ⟨demand_queue s _, demand_out s _⟩
    | _ => exact ⟨rfl, rfl⟩
  | _ => cases h

end State

/-- A relation that each visit of a sweep keeps, the whole sweep keeps. -/
theorem sweep_relates {R : State → State → Prop} (refl : ∀ s, R s s) (trans : ∀ {s t u}, R s t → R t u → R s u)
    {rule : State → Nat → Entry → Visit}
    (fail : ∀ s k e, s.queue[k]? = some e → rule s k e = .fail → R s (s.answerEntry k e .eBank []))
    (evaluate : ∀ s k e, s.queue[k]? = some e → rule s k e = .evaluate → R s (s.reevaluate k e))
    (fuel k : Nat) (s : State) : R s (sweep rule fuel k s) := by
  induction fuel generalizing k s with
  | zero => exact refl s
  | succ n ih =>
    unfold sweep
    split
    · exact refl s
    next e he =>
      split
      · exact ih _ _
      next hv => exact trans (fail s k e he hv) (ih _ _)
      next hv => split <;> exact trans (evaluate s k e he hv) (ih _ _)

theorem grantEntry_queue {s : State} {k : Nat} {e : Entry} (he : s.queue[k]? = some e) :
    (s.grantEntry k).queue = (s.setStatus k .issued).queue := by
  unfold State.grantEntry
  split
  next hn => exact absurd (he.symm.trans hn) nofun
  · dsimp only
    split <;> rfl

theorem grantDrain_queue (s : State) (i : SlotNo) (cls : DrainClass) : (s.grantDrain i cls).queue = s.queue := by
  unfold State.grantDrain
  split
  · rfl
  · cases cls <;> rfl

namespace AnswersInOrder

theorem reevaluate {s : State} {k : Nat} {e : Entry} (he : s.queue[k]? = some e) (hh : s.atHead k e = true) :
    AnswersInOrder s (s.reevaluate k e) := by
  unfold State.reevaluate
  dsimp only
  split
  next st hv =>
    obtain ⟨hq, ho⟩ := State.perform_enters (s := s.setStatus k st) (r := e.request) hv
    exact (setStatus he hh st).trans (of_blocks hq (by rw [ho]))
  next hv =>
    obtain ⟨hq, code, data, ho⟩ := State.perform_answers (s := s.removeEntry k) (r := e.request) hv
    exact answered he hh hq ho

/-- A sweep whose rule acts only on entries that are the first of their initiator. -/
theorem sweep {rule : State → Nat → Entry → Visit}
    (hr : ∀ s k e, s.EvaluatedFirst → s.queue[k]? = some e → rule s k e ≠ .pass → s.atHead k e = true)
    (fuel k : Nat) (s : State) : AnswersInOrder s (Machine.sweep rule fuel k s) := by
  refine sweep_relates refl trans (fun u k e he hv hu => ?_) (fun u k e he hv hu => ?_) fuel k s
  · exact answered he (hr u k e hu he (by rw [hv]; nofun)) rfl rfl hu
  · exact reevaluate he (hr u k e hu he (by rw [hv]; nofun)) hu

theorem releaseWalk (s : State) : AnswersInOrder s s.releaseWalk := by
  refine sweep (fun u k e _ _ hv => ?_) _ _ s
  by_contra hn
  exact hv (by rw [State.walkRule, if_neg hn])

theorem freezeReevaluation (pre s : State) : AnswersInOrder s (State.freezeReevaluation pre s) := by
  refine sweep (fun u k e hu he hv => hu.atHead he (.inl ?_)) _ _ s
  by_contra hn
  exact hv (by simp [State.freezeRule, hn])

theorem releaseWalks (n : Nat) (s : State) : AnswersInOrder s (State.releaseWalks n s) := by
  induction n generalizing s with
  | zero => exact .refl s
  | succ n ih =>
    unfold State.releaseWalks
    dsimp only
    split
    · exact (releaseWalk s).trans (ih _)
    · exact releaseWalk s

theorem runQueue (pre : State) (released : Bool) (s : State) : AnswersInOrder s (State.runQueue pre released s) := by
  have frozen := freezeReevaluation pre s
  unfold State.runQueue
  dsimp only
  split
  · exact frozen.trans (releaseWalks _ _)
  · exact frozen

theorem of_power {s t : State} (h : PowerEnd s t) : AnswersInOrder s t := .of_blocks h.queue (by rw [h.out])

theorem untilGrant (s pre : State) (released : Bool) : AnswersInOrder s (s.untilGrant pre released) :=
  (runQueue pre released s).trans <| (of_power (.takeAgeExpiries pre _)).trans (of_power (.pressureChoice _))

theorem grant (s : State) : AnswersInOrder s s.grant := by
  rcases grant_cases s with ⟨h, -⟩ | ⟨k, h, hk⟩ | ⟨i, cls, h, -⟩ | ⟨b, h, -⟩ <;> rw [h]
  · exact .refl s
  · obtain ⟨e, he, hr, -⟩ := readyEntry_some hk
    intro hs
    have issued := setStatus he (hs.atHead he (.inl hr)) .issued
    exact issued.trans (of_blocks (grantEntry_queue he) (QuietEnd.grantEntry s k).responses) hs
  · exact of_blocks (grantDrain_queue s i cls) (QuietEnd.grantDrain s i cls).responses
  · exact of_blocks rfl rfl

theorem finish (s pre : State) (released : Bool) : AnswersInOrder s (s.finish pre released) :=
  (untilGrant s pre released).trans <| (grant _).trans (of_power (.afterGrant _ pre))

theorem finishCompletion (s pre : State) (released : Bool) : AnswersInOrder s (s.finishCompletion pre released) := by
  unfold State.finishCompletion
  split
  · exact (untilGrant s pre released).trans (of_power (.afterGrant _ pre))
  · exact finish s pre released

end AnswersInOrder

/-! ## A command's own effect -/

namespace AnswersInOrder

theorem ended {s u pre : State} {released : Bool} (h : AnswersInOrder s u) :
    AnswersInOrder s (u.finish pre released) := h.trans (finish u pre released)

theorem replied {s u : State} {n : Nat} {status : MgmtStatus} {results : List Byte} (h : AnswersInOrder s u) :
    AnswersInOrder s (u.reply n status results) := h.trans (of_blocks rfl rfl)

/-- The completion of a word operation answers the ISSUED entry, which is the first of its initiator (R66). -/
theorem routeWord (s : State) (report : Report) (data : Vector Word 8) : AnswersInOrder s (s.routeWord report data) := by
  unfold State.routeWord
  split
  · exact .refl s
  next k hk =>
    split
    · exact .refl s
    next e he =>
      intro hs
      have issued : e.status = .issued := by
        obtain ⟨h, hp, -⟩ := List.findIdx?_eq_some_iff_getElem.mp hk
        rw [List.getElem?_eq_getElem h] at he
        injection he with he
        simpa [he] using hp
      have hh := hs.atHead he (.inr issued)
      cases report with
      | error => exact answered he hh rfl rfl hs
      | ok => exact answered he hh rfl rfl hs

theorem routeLine (s : State) (i : SlotNo) (report : Report) : AnswersInOrder s (s.routeLine i report) := by
  refine of_blocks (routeLine_queue s i report) ?_
  unfold State.routeLine
  split
  · rfl
  · split
    · rfl
    · rw [State.drained, State.afterFreeing_out]
    · rfl
    · rw [State.drainFailed, State.afterFreeing_out]
      exact congrArg _ (State.handFault_out s _)

theorem routeZero (s : State) (report : Report) : AnswersInOrder s (s.routeZero report) := by
  have advance : ∀ (u : State) (b : BankNo), AnswersInOrder u (u.advanceClear b) := by
    intro u b
    unfold State.advanceClear
    split <;> exact of_blocks rfl rfl
  unfold State.routeZero
  split
  · split
    · exact .refl s
    next b _ =>
      cases report with
      | ok => exact .trans (t := { s with clear := { s.clear with outstanding := false } }) (of_blocks rfl rfl) (advance _ b)
      | error =>
        refine .trans (of_blocks ?_ ?_) (advance _ b)
        · exact State.handFault_queue s _
        · exact congrArg _ (State.handFault_out s _)
  · exact .refl s

theorem complete (s : State) (op : InFlight) (report : Report) (data : Vector Word 8) :
    AnswersInOrder s ((s.endOperation op.bank).route op report data) := by
  refine .trans (t := s.endOperation op.bank) (of_blocks rfl rfl) ?_
  unfold State.route
  split
  · exact routeWord _ report data
  · exact routeLine _ _ report
  · exact routeZero _ report

theorem markFailed (s : State) (b : BankNo) : AnswersInOrder s (s.markFailed b) := by
  refine of_map rfl rfl (fun e => ?_) fun e h => ?_
  · split <;> rfl
  · split
    · exact ⟨nofun, nofun⟩
    · exact h

theorem makeStuck (s : State) (b : BankNo) : AnswersInOrder s (s.makeStuck b) := by
  unfold State.makeStuck
  split
  · refine .trans (of_blocks ?_ ?_) (markFailed _ b) <;> simp
  · exact .refl s

theorem handFault (s : State) (rep : FaultReport) : AnswersInOrder s (s.handFault rep) :=
  of_blocks (by simp) (by simp)

theorem failBank (s : State) (b : BankNo) (kind : FaultKind) : AnswersInOrder s (s.failBank b kind) :=
  (makeStuck s b).trans (handFault _ _)

theorem tellTimeout (s : State) (op : InFlight) : AnswersInOrder s (s.tellTimeout op) := by
  unfold State.tellTimeout
  split
  · refine of_map rfl rfl (fun e => ?_) fun e h => ?_
    · split <;> rfl
    · split
      · exact ⟨nofun, nofun⟩
      · exact h
  · split <;> exact of_blocks rfl rfl
  · exact .refl s

theorem timeOut (s : State) (op : InFlight) : AnswersInOrder s (s.timeOut op) :=
  .trans (t := s.endOperation op.bank) (of_blocks rfl rfl) <|
    (tellTimeout _ op).trans <| (makeStuck _ op.bank).trans (handFault _ _)

theorem addCause (s : State) (b : BankNo) (f : DrainCauses → DrainCauses) : AnswersInOrder s (s.addCause b f) :=
  of_blocks (by simp) (by simp)

theorem descend (s : State) (b : BankNo) (o : Rest) : AnswersInOrder s (s.descend b o) := of_blocks (by simp) (by simp)

theorem wake (s : State) (b : BankNo) (o : Rest) : AnswersInOrder s (s.wake b o) := of_blocks (by simp) (by simp)

theorem sampleAtRest (s : State) (b : BankNo) : AnswersInOrder s (s.sampleAtRest b) := by
  have sampled : AnswersInOrder s (s.sampleLines b) := of_blocks rfl rfl
  unfold State.sampleAtRest
  dsimp only
  split
  · exact sampled
  · exact sampled.trans (failBank _ b _)

theorem enterWarn (s : State) : AnswersInOrder s s.enterWarn :=
  .trans (t := { s with mode := .warn }) (of_blocks rfl rfl) (foldl (fun t b => addCause t b _) _ _)

theorem leaveWarn (s : State) : AnswersInOrder s s.leaveWarn := by
  unfold State.leaveWarn
  split <;> exact of_blocks rfl rfl

theorem flushEvery (s : State) : AnswersInOrder s s.flushEvery := by
  refine foldl (fun t b => ?_) _ s
  split
  · exact addCause t b _
  · exact .refl t

theorem refit (s : State) (v : BitVec 16) : AnswersInOrder s (s.refit v) := by
  refine .trans (t := { s with regs := { s.regs with banksFitted := v.extractLsb' 0 4 } }) (of_blocks rfl rfl) ?_
  refine foldl (fun t b => ?_) _ _
  unfold State.fitBank
  split
  · exact .trans (t := t.setBank b fun _ => BankRecord.reset) (of_blocks rfl rfl) (sampleAtRest _ b)
  · exact .refl t

theorem removeHead (s : State) : AnswersInOrder s s.removeHead := by
  unfold State.removeHead
  split
  · exact .refl s
  · exact of_blocks (by simp) (by simp)

theorem clearUnlogged (s : State) (b : BankNo) : AnswersInOrder s (s.clearUnlogged b) :=
  of_blocks (by simp [State.clearUnlogged]) (by simp [State.clearUnlogged])

theorem discardBank (s : State) (b : BankNo) : AnswersInOrder s (s.discardBank b) := by
  refine of_blocks (discardBank_queue s b) ?_
  rw [discardBank_eq, State.descend_out]
  simp [discarded]

theorem milliStep (s : State) : AnswersInOrder s s.milliStep := by
  unfold State.milliStep
  generalize s.store.ageAll = st
  dsimp only
  split
  · exact of_blocks rfl rfl
  · exact of_blocks rfl rfl

end AnswersInOrder

/-! ## Every command but a taking and the resets -/

/-- Whatever state an outcome gives, requests are answered in order up to it. -/
def OutcomeInOrder (s : State) (o : Host.Outcome State Fault Refusal) : Prop := ∀ t, o = .next t → AnswersInOrder s t

namespace OutcomeInOrder

variable {s u : State}

theorem next (h : AnswersInOrder s u) : OutcomeInOrder s (.next u) := by
  rintro _ ⟨⟩
  exact h

theorem unchanged : OutcomeInOrder s (.next s) := next (.refl s)

theorem reply {n : Nat} {status : MgmtStatus} {results : List Byte} : OutcomeInOrder s (.next (s.reply n status results)) :=
  next (AnswersInOrder.replied (.refl s))

theorem onFrame {e : Host.Outcome State Fault Refusal} (h : OutcomeInOrder s e) : OutcomeInOrder s (s.onFrame e) := by
  intro t ht
  rcases State.onFrame_next ht with ⟨-, rfl⟩ | ⟨-, he⟩
  · exact .refl t
  · exact h t he

theorem cond {p : Prop} [Decidable p] {a b : Host.Outcome State Fault Refusal} (ha : OutcomeInOrder s a)
    (hb : OutcomeInOrder s b) : OutcomeInOrder s (if p then a else b) := by
  split
  · exact ha
  · exact hb

end OutcomeInOrder


open OutcomeInOrder (next unchanged reply)

theorem completion_inOrder (number : BitVec 8) (report : Report) (data : Vector Word 8) (s : State) :
    OutcomeInOrder s (execCompletion number report data s) := by
  have late : AnswersInOrder s s.lateCompletion := .of_blocks rfl rfl
  unfold execCompletion
  split
  next op _ => exact .cond (next ((AnswersInOrder.complete s op report data).trans (.finishCompletion _ _ _))) (next late)
  · exact next late

theorem accessTimeout_inOrder (s : State) : OutcomeInOrder s (execAccessTimeout s) := by
  unfold execAccessTimeout
  split
  next op _ => exact next (AnswersInOrder.timeOut s op).ended
  · exact unchanged

theorem statusLineChange_inOrder (b : BankNo) (level : StatusLevel) (settled : Bool) (s : State) :
    OutcomeInOrder s (execStatusLineChange b level settled s) := by
  have driven : AnswersInOrder s (s.drive b level settled) := .of_blocks rfl rfl
  have sampled : AnswersInOrder s ((s.drive b level settled).sampleLines b) := .of_blocks rfl rfl
  have changed : AnswersInOrder s ((s.drive b level settled).settledChange s b) := by
    unfold State.settledChange
    split
    · exact (sampled.trans (.failBank _ b _)).ended
    · exact sampled
  refine .cond (next ?_) (next driven)
  unfold State.lineChange
  dsimp only
  split
  next o _ =>
    split
    · exact (sampled.trans (.of_blocks (State.settleWaking_queue _ b o) (by rw [State.settleWaking_out]))).ended
    · exact sampled
  next o _ =>
    split
    · exact (sampled.trans (.of_blocks (State.settleDescending_queue _ b o) (by rw [State.settleDescending_out]))).ended
    · exact sampled
  · exact sampled
  all_goals exact changed

/-! ### The management port -/

/-- The part with a new region entry in place `g` (R37). -/
def State.withRegion (s : State) (g : Fin 8) (x : Region) : State := { s with regions := updAt s.regions g fun _ => x }

theorem writeInRange_inOrder {s : State} {c : Bool} {effect : State → State} (h : AnswersInOrder s (effect s)) :
    AnswersInOrder s (s.writeInRange c effect) := by
  unfold State.writeInRange
  split
  · exact h.replied
  · exact AnswersInOrder.replied (.refl s)

theorem writeConfig_inOrder (s : State) (v : BitVec 16) : AnswersInOrder s (s.writeConfig v) := by
  have divided : AnswersInOrder s (s.setTickDiv v) := .of_blocks rfl rfl
  unfold State.writeConfig
  split
  · split
    · exact divided.replied
    · split
      · exact (divided.trans (.refit _ v)).ended.replied
      · exact AnswersInOrder.replied (.refl s)
  · exact AnswersInOrder.replied (.refl s)

theorem regWrite_inOrder (number : Byte) (v : BitVec 16) (s : State) : OutcomeInOrder s (execRegWrite number v s) := by
  refine .onFrame ?_
  split
  · exact reply
  iterate 2 exact next (writeInRange_inOrder (.of_blocks rfl rfl))
  iterate 9 exact reply
  · exact next (writeConfig_inOrder s v)
  iterate 2 exact next (writeInRange_inOrder (AnswersInOrder.ended (.of_blocks rfl rfl)))
  iterate 5 exact next (writeInRange_inOrder (.of_blocks rfl rfl))

theorem counterHighRead_inOrder (number : Byte) (s : State) : OutcomeInOrder s (execCounterHighRead number s) := by
  refine .onFrame ?_
  split
  · exact reply
  next r _ =>
    have captured : AnswersInOrder s (s.captureLow r) := by cases r <;> exact .of_blocks rfl rfl
    exact next captured.replied

theorem regionWrite_inOrder (entry flags : Byte) (base limit : BitVec 24) (initiators : Byte) (s : State) :
    OutcomeInOrder s (execRegionWrite entry flags base limit initiators s) := by
  refine .onFrame ?_
  split
  next g _ =>
    have written : AnswersInOrder s (s.withRegion g (.ofArguments flags base limit initiators)) := .of_blocks rfl rfl
    refine next ?_
    unfold State.writeRegion
    split
    · exact written.ended.replied
    · exact AnswersInOrder.replied (.refl s)
  · exact reply

theorem faultPopRemoval_inOrder (shifted : Nat) (s : State) : OutcomeInOrder s (execFaultPopRemoval shifted s) := by
  have left : AnswersInOrder s s.endFrame := .of_blocks rfl rfl
  unfold execFaultPopRemoval
  split
  · exact next left
  · exact .cond (next (left.trans (.removeHead _)).ended) (next left)

theorem flush_inOrder (bank : Byte) (s : State) : OutcomeInOrder s (execFlush bank s) := by
  refine .onFrame ?_
  split
  · exact reply
  next b _ =>
    refine next ?_
    unfold State.orderFlush
    split
    · exact AnswersInOrder.replied (.refl s)
    · split
      · exact AnswersInOrder.replied (.refl s)
      · exact (AnswersInOrder.addCause s b _).ended.replied

/-! ### Orders -/

theorem order_inOrder (s : State) (bank : Byte) {action : BankNo → State} (h : ∀ b, AnswersInOrder s (action b)) :
    OutcomeInOrder s (s.onFrame (.next (s.order bank action))) := by
  refine .onFrame (next ?_)
  unfold State.order
  split
  · exact AnswersInOrder.replied (.refl s)
  · split
    · exact h _
    · exact AnswersInOrder.replied (.refl s)

theorem accept_inOrder {s u : State} (h : AnswersInOrder s u) : AnswersInOrder s (s.accept u) := h.ended.replied

theorem replyOrder_inOrder (s : State) (status : MgmtStatus) : AnswersInOrder s (s.replyOrder status) :=
  .of_blocks rfl rfl

theorem orderWake_inOrder (s : State) (b : BankNo) : AnswersInOrder s (s.orderWake b) := by
  unfold State.orderWake
  split
  · exact accept_inOrder (.wake s b .off)
  · exact accept_inOrder (.wake s b .retain)
  · exact .of_blocks rfl rfl
  · split
    · exact accept_inOrder (.of_blocks rfl rfl)
    · exact replyOrder_inOrder s _
  all_goals exact replyOrder_inOrder s _

theorem orderRetain_inOrder (s : State) (b : BankNo) : AnswersInOrder s (s.orderRetain b) := by
  unfold State.orderRetain
  iterate 3
    split
    · exact replyOrder_inOrder s _
  exact accept_inOrder (.descend s b .retain)

theorem orderOff_inOrder (s : State) (b : BankNo) : AnswersInOrder s (s.orderOff b) := by
  unfold State.orderOff
  split
  · split
    · exact replyOrder_inOrder s _
    · exact accept_inOrder (.descend s b .off)
  · exact replyOrder_inOrder s _

theorem orderRetry_inOrder (s : State) (b : BankNo) : AnswersInOrder s (s.orderRetry b) := by
  unfold State.orderRetry
  split
  · exact accept_inOrder (.wake s b _)
  all_goals exact replyOrder_inOrder s _

theorem orderDiscard_inOrder (s : State) (b : BankNo) : AnswersInOrder s (s.orderDiscard b) := by
  unfold State.orderDiscard
  split
  · exact accept_inOrder (.discardBank s b)
  · exact replyOrder_inOrder s _

theorem orderClear_inOrder (s : State) (b : BankNo) : AnswersInOrder s (s.orderClear b) := by
  have pending : AnswersInOrder s (s.setClearPending b true) := .of_blocks rfl rfl
  unfold State.orderClear
  split
  · exact replyOrder_inOrder s _
  · split
    · exact accept_inOrder (.of_blocks rfl rfl)
    · exact accept_inOrder (pending.trans (.wake _ b .off))
    · exact accept_inOrder (pending.trans (.wake _ b .retain))
    all_goals exact replyOrder_inOrder s _

theorem orderUnlost_inOrder (s : State) (b : BankNo) : AnswersInOrder s (s.orderUnlost b) := by
  unfold State.orderUnlost
  split
  · exact replyOrder_inOrder s _
  · exact .of_blocks rfl rfl

/-- The commands that take a request or discard those that wait. -/
def movesRequests (c : Instr) : Bool :=
  match c with
  | .requestTaken _ | .resetnAssertion | .powerOnReset => true
  | _ => false

/-- Every other command answers requests in their order, takes none and discards none. -/
theorem exec_answersInOrder {c : Instr} {s t : State} (hc : movesRequests c = false) (h : exec c s = .next t) :
    AnswersInOrder s t := by
  suffices ho : OutcomeInOrder s (exec c s) from ho t h
  cases c with
  | requestTaken | resetnAssertion | powerOnReset => cases hc
  | completion number report data => exact completion_inOrder number report data s
  | accessTimeout => exact accessTimeout_inOrder s
  | settleTimeout b => exact .cond (next (AnswersInOrder.failBank s b _).ended) unchanged
  | statusLineChange b level settled => exact statusLineChange_inOrder b level settled s
  | idleTimerExpiry b => exact .cond (next (AnswersInOrder.descend s b .retain).ended) unchanged
  | offTimerExpiry b => exact .cond (next (AnswersInOrder.descend s b .off).ended) unchanged
  | ageExpiry b => exact .cond (next (AnswersInOrder.addCause s b _).ended) unchanged
  | supwarnAssertion =>
    have driven : AnswersInOrder s (s.driveSupwarn true) := .of_blocks rfl rfl
    exact .cond unchanged (next (driven.trans (.enterWarn _)).ended)
  | supwarnNegation =>
    have driven : AnswersInOrder s (s.driveSupwarn false) := .of_blocks rfl rfl
    exact .cond (next (driven.trans (.leaveWarn _)).ended) unchanged
  | fltpassAssertion => exact .cond unchanged (next (AnswersInOrder.ended (.of_blocks rfl rfl)))
  | fltpassNegation => exact .cond (next (AnswersInOrder.ended (.of_blocks rfl rfl))) unchanged
  | resetnNegation => exact .cond (next (AnswersInOrder.ended (.of_blocks rfl rfl))) unchanged
  | invalidCommand frame =>
    exact .cond (.onFrame reply) (.cond (.onFrame (next (.of_blocks rfl rfl))) (fun _ he => nomatch he))
  | status => exact .onFrame reply
  | counterHighRead number => exact counterHighRead_inOrder number s
  | regWrite number v => exact regWrite_inOrder number v s
  | configWrite v => exact .onFrame (next (writeConfig_inOrder s v))
  | hwmWrite v => exact .onFrame (next (writeInRange_inOrder (AnswersInOrder.ended (.of_blocks rfl rfl))))
  | ageLimitWrite v => exact .onFrame (next (writeInRange_inOrder (AnswersInOrder.ended (.of_blocks rfl rfl))))
  | irqStatusWrite v => exact .onFrame (next (writeInRange_inOrder (.of_blocks rfl rfl)))
  | irqEnableWrite v => exact .onFrame (next (writeInRange_inOrder (.of_blocks rfl rfl)))
  | resetRecordWrite v => exact .onFrame (next (writeInRange_inOrder (.of_blocks rfl rfl)))
  | bankPolicyAWrite b v => exact .onFrame (next (writeInRange_inOrder (.of_blocks rfl rfl)))
  | bankPolicyBWrite b v => exact .onFrame (next (writeInRange_inOrder (.of_blocks rfl rfl)))
  | regionRead entry => exact .onFrame (by split <;> exact reply)
  | regionWrite entry flags base limit initiators => exact regionWrite_inOrder entry flags base limit initiators s
  | slotRead slot => exact .onFrame (by split <;> exact reply)
  | wakeOrder bank => exact order_inOrder s bank (orderWake_inOrder s)
  | retainOrder bank => exact order_inOrder s bank (orderRetain_inOrder s)
  | offOrder bank => exact order_inOrder s bank (orderOff_inOrder s)
  | retryOrder bank => exact order_inOrder s bank (orderRetry_inOrder s)
  | discardOrder bank => exact order_inOrder s bank (orderDiscard_inOrder s)
  | clearOrder bank => exact order_inOrder s bank (orderClear_inOrder s)
  | unlostOrder bank => exact order_inOrder s bank (orderUnlost_inOrder s)
  | flush bank => exact flush_inOrder bank s
  | flushAll => exact .onFrame (next (AnswersInOrder.flushEvery s).ended.replied)
  | faultPeek => exact .onFrame (by split <;> exact reply)
  | faultPop => exact .onFrame (by split <;> exact next (.of_blocks rfl rfl))
  | faultPopRemoval shifted => exact faultPopRemoval_inOrder shifted s
  | clearUnlogged bank =>
    refine .onFrame ?_
    split
    · exact reply
    next b _ => exact next (AnswersInOrder.clearUnlogged s b).ended.replied
  | millisecondCounterStep => exact next (.milliStep s)


/-! ## A taking, and the statement -/

/-- A request entered at the tail of the queue, not evaluated or with no entry of its initiator before it. -/
theorem evaluatedFirst_append {s t : State} {r : Request} {st : EntryStatus} (hs : s.EvaluatedFirst)
    (hq : t.queue = s.queue ++ [⟨r, st⟩]) (hst : st = .waiting .order ∨ s.unanswered r.initiator = 0) :
    t.EvaluatedFirst := by
  rw [State.EvaluatedFirst, hq, List.pairwise_append]
  refine ⟨hs, List.pairwise_singleton _ _, fun e he e' he' hi => ?_⟩
  obtain rfl : e' = ⟨r, st⟩ := by simpa using he'
  rcases hst with rfl | h0
  · exact ⟨nofun, nofun⟩
  · exact absurd hi.symm (by simpa using List.countP_eq_zero.mp h0 e he)

/-- A taking adds the request's tag to those of its initiator: behind those that wait, or answered at once where none
waits (R30, R56). -/
theorem takeRequest_inOrder {s : State} (hs : s.EvaluatedFirst) (r : Request) : (s.takeRequest r).EvaluatedFirst ∧
    ∀ i, (s.takeRequest r).takenTags i = s.takenTags i ++ if r.initiator = i then [r.tag] else [] := by
  have entered : ∀ {t : State} {st : EntryStatus}, t.queue = s.queue ++ [⟨r, st⟩] → t.out = s.out →
      st = .waiting .order ∨ s.unanswered r.initiator = 0 → t.EvaluatedFirst ∧
        ∀ i, t.takenTags i = s.takenTags i ++ if r.initiator = i then [r.tag] else [] := by
    intro t st hq ho hst
    refine ⟨evaluatedFirst_append hs hq hst, fun i => ?_⟩
    simp only [State.takenTags, State.sentTags_congr (congrArg _ ho),
      State.waitingTags_entered (s := s) (t := t) (r := r) (by rw [hq]; simp), List.append_assoc]
  unfold State.takeRequest
  split
  next h0 =>
    cases hv : (s.judge r).entryStatus with
    | some st =>
      rw [State.firstEvaluation_entered s r st hv]
      obtain ⟨hq, ho⟩ := State.perform_enters (s := s.appendEntry r st) (r := r) hv
      exact entered hq ho (.inr h0)
    | none =>
      rw [State.firstEvaluation_answered s r hv]
      obtain ⟨hq, code, data, ho⟩ := State.perform_answers (s := s) (r := r) hv
      refine ⟨by rwa [State.EvaluatedFirst, hq], fun i => ?_⟩
      have none_waits : r.initiator = i → s.waitingTags i = [] := by
        rintro rfl
        rw [State.waitingTags, List.map_eq_nil_iff, List.filter_eq_nil_iff]
        exact List.countP_eq_zero.mp h0
      rw [State.takenTags, State.takenTags, State.sentTags_answered ho, State.waitingTags_congr (congrArg _ hq)]
      by_cases e : r.initiator = i
      · simp [e, none_waits e]
      · simp [e]
  · exact entered rfl rfl (.inl rfl)

/-- Settles O23: only an entry that is the first of its initiator is answered, at every command. -/
theorem responsesLeaveInTheOrderTaken : Obligations.ResponsesLeaveInTheOrderTaken := by
  intro c s t i hs h
  have others : movesRequests c = false → t.takenTags i = s.takenTags i := fun hc =>
    (exec_answersInOrder hc h hs.evaluatedFirst).2 i
  cases c with
  | powerOnReset =>
    obtain ⟨u, hu, -, -, -, hq, -, -, -, -, -, -, -, ho, -⟩ := powerOnResetGivesThePowerOnValues.2 s
    obtain rfl : u = t := by injection hu.symm.trans h
    exact ⟨State.sentTags_congr (by rw [ho]) i, by rw [State.waitingTags, hq]; rfl⟩
  | resetnAssertion =>
    cases hr : s.pins.resetn with
    | true =>
      obtain rfl : s = t := by simpa [exec, execResetnAssertion, hr] using h
      exact ⟨rfl, rfl⟩
    | false =>
      obtain rfl : (resetAsserted s).finish s false = t := by injection (exec_resetnAssertion hr).symm.trans h
      have quiet := (finish_tail (resetAsserted_rests s s false)).quiet
      refine ⟨State.sentTags_congr (quiet.responses.trans (by rw [(resetAsserted_rest s).1])) i, ?_⟩
      rw [State.waitingTags_congr quiet.requests]
      rfl
  | requestTaken r =>
    show t.takenTags i = s.takenTags i ++ _
    have hp : r.presentable = true := by
      by_contra hn
      simp [exec, execRequestTaken, hn] at h
    by_cases hm : s.mayTake r = true
    · obtain rfl : (s.takeRequest r).finish s false = t := by simpa [exec, execRequestTaken, hp, hm] using h
      obtain ⟨hu, tags⟩ := takeRequest_inOrder hs.evaluatedFirst r
      rw [(AnswersInOrder.finish _ s false hu).2 i, tags i]
      simp [hm]
    · obtain rfl : s = t := by simpa [exec, execRequestTaken, hp, hm] using h
      simp [hm]
  | _ => exact others rfl

end Sys2Proof.Machine

/-! The S port's queue from outside: what keeps a request out, and what enters one unevaluated (R28, R29, R56, R58); and
what a sweep of the queue does with each entry (R49, R61, R62, R69). -/

namespace Sys2Proof.Machine

/-! ## Requests kept out, and requests behind another of their initiator -/

section
variable {s : State} {r : Request} (hp : r.presentable = true)
include hp

theorem exec_requestTaken_keptOut (h : s.mayTake r = false) : exec (.requestTaken r) s = .next s := by
  simp [exec, execRequestTaken, hp, h]

/-- A request taken behind an earlier entry of its initiator is entered and not evaluated (R56). -/
theorem exec_requestTaken_behind (hm : s.mayTake r = true) (hn : s.unanswered r.initiator ≠ 0) :
    exec (.requestTaken r) s = .next ((s.appendEntry r (.waiting .order)).finish s false) := by
  simp [exec, execRequestTaken, State.takeRequest, hp, hm, hn]

end

theorem mayTake_iff {s : State} {r : Request} : s.mayTake r = true ↔
    s.pins.resetn = false ∧ s.queue.length < 16 ∧ s.unanswered r.initiator < 4 := by
  simp only [State.mayTake, Bool.and_eq_true, Bool.not_eq_true', decide_eq_true_eq, and_assoc]
  rfl

/-- Settles O24: a request behind another of its initiator leaves the rest of the queue as it is, through the end of the
event. -/
theorem requestsWaitOutsideOrInOrder : Obligations.RequestsWaitOutsideOrInOrder := by
  intro r s
  refine ⟨fun hp => ?_, fun hp hout => exec_requestTaken_keptOut hp ?_, fun hp hr hq hn hu => ?_⟩
  · simp [exec, execRequestTaken, hp]
  · rw [← Bool.not_eq_true, mayTake_iff]
    rintro ⟨hr, hq, hu⟩
    rcases hout with h | h | h
    · rw [hr] at h
      cases h
    · omega
    · omega
  · have rests : State.runQueue s false (s.appendEntry r (.waiting .order)) = s.appendEntry r (.waiting .order) :=
      State.runQueue_unmoved rfl rfl rfl rfl
    have tail := finish_tail rests
    obtain ⟨requests, status⟩ := tail.last_status (q := s.queue) rfl
    exact ⟨_, exec_requestTaken_behind hp (mayTake_iff.2 ⟨hr, hq, hu⟩) hn, tail.quiet.responses, requests,
      status.resolve_right fun h => (nomatch h.1), tail.quiet.absorbed, tail.quiet.served, tail.quiet.ageList⟩

/-! ## Sweeps -/

theorem walkRule_evaluate_iff (s : State) (k : Nat) (e : Entry) :
    State.walkRule s k e = .evaluate ↔ s.atHead k e = true ∧ ∃ reason, e.status = .waiting reason := by
  unfold State.walkRule
  cases s.atHead k e with
  | false => simp
  | true => cases e.status <;> simp

theorem walkRule_fail_iff (s : State) (k : Nat) (e : Entry) :
    State.walkRule s k e = .fail ↔ s.atHead k e = true ∧ e.status = .failed := by
  unfold State.walkRule
  cases s.atHead k e with
  | false => simp
  | true => cases e.status <;> simp

theorem freezeRule_evaluate_iff (pre s u : State) (k : Nat) (e : Entry) :
    State.freezeRule pre s u k e = .evaluate ↔
      e.status = .ready ∧ pre.frozen e.request.bank = false ∧ s.frozen e.request.bank = true := by
  simp [State.freezeRule, State.becameFrozen]

theorem freezeRule_ne_fail (pre s u : State) (k : Nat) (e : Entry) : State.freezeRule pre s u k e ≠ .fail := by
  unfold State.freezeRule
  split <;> nofun

/-- A verdict never holds a request for its order: that is no matter of the decision (R39, R56). -/
theorem judge_ne_held_order (s : State) (r : Request) : s.judge r ≠ .held .order := by
  unfold State.judge State.judgeWrite State.judgeRead
  repeat' split
  all_goals nofun

section
variable {rule : State → Nat → Entry → Visit} {left k : Nat} {s : State} {e : Entry}

theorem sweep_end (h : s.queue[k]? = none) : sweep rule (left + 1) k s = s := by simp only [sweep, h]

section
variable (he : s.queue[k]? = some e)
include he

theorem sweep_passed (hv : rule s k e = .pass) : sweep rule (left + 1) k s = sweep rule left (k + 1) s := by
  simp only [sweep, he, hv]

theorem sweep_failed (hv : rule s k e = .fail) :
    sweep rule (left + 1) k s = sweep rule left k (s.answerEntry k e .eBank []) := by
  simp only [sweep, he, hv]

/-- An entry whose outcome answers it leaves, so that the next one stands in its place. -/
theorem sweep_answered (hv : rule s k e = .evaluate) (hj : (s.judge e.request).entryStatus = none) :
    sweep rule (left + 1) k s = sweep rule left k ((s.removeEntry k).perform e.request (s.judge e.request)) := by
  simp only [sweep, he, hv, State.reevaluate, hj]

/-- An entry whose outcome keeps it stays in its place with its new status. -/
theorem sweep_kept {st : EntryStatus} (hv : rule s k e = .evaluate) (hj : (s.judge e.request).entryStatus = some st) :
    sweep rule (left + 1) k s = sweep rule left (k + 1) ((s.setStatus k st).perform e.request (s.judge e.request)) := by
  simp only [sweep, he, hv, State.reevaluate, hj]

end
end

/-- Settles O26: a sweep visit by visit, each outcome of the decision with the effect that it has. -/
theorem walksReevaluateTheOldestFirst : Obligations.WalksReevaluateTheOldestFirst := by
  intro s pre
  refine ⟨rfl, rfl, fun u k e => ⟨walkRule_evaluate_iff u k e, walkRule_fail_iff u k e, u.atHead_iff k e,
    freezeRule_evaluate_iff pre s u k e, freezeRule_ne_fail pre s u k e⟩, fun rule left k => ⟨sweep_end, fun e he => ?_⟩⟩
  refine ⟨sweep_passed he, sweep_failed he, fun hv => ?_⟩
  have answered := sweep_answered (left := left) he hv
  have kept := fun st => sweep_kept (left := left) (st := st) he hv
  cases hj : s.judge e.request with
  | held reason =>
    rw [hj] at kept
    cases reason with
    | order => exact absurd hj (judge_ne_held_order s _)
    | bank => exact kept _ rfl
    | frozen => exact kept _ rfl
  | forwarded =>
    rw [hj] at kept
    exact kept _ rfl
  | _ =>
    rw [hj] at answered
    exact answered rfl

end Sys2Proof.Machine

/-! The Region Table: what it gives a request (R35), the read of an entry (R38), and its write with the release walk that
follows (R37, R60). -/

namespace Sys2Proof.Machine

/-! ## A release walk enters no bank into ACTIVE -/

/-- Where every bank agrees with its lines in `s`, every bank does in `t`, and none has entered ACTIVE. -/
def NoneEntersActive (s t : State) : Prop :=
  (∀ b : BankNo, s.HandshakeOf b) →
    (∀ b : BankNo, t.HandshakeOf b) ∧ ∀ b : BankNo, t.bankState b = .active → s.bankState b = .active

theorem handshake_congr {s t : State} {b : BankNo} (h : t.banks[b] = s.banks[b]) (hs : s.HandshakeOf b) : t.HandshakeOf b := by
  unfold State.HandshakeOf State.bankState at *
  rwa [h]

/-- A bank at rest that is raised agrees with its lines as a WAKING bank: they do not report ACTIVE (R74, R78). -/
theorem wake_handshake {s : State} {b : BankNo} {o : Rest} (h : s.HandshakeOf b) (hb : s.bankState b = o.state) :
    (s.wake b o).HandshakeOf b := by
  have unsettled : (s.banks[b].settled && s.banks[b].reported == .active) = false := by
    unfold State.HandshakeOf at h
    rw [hb] at h
    cases o <;>
    · obtain ⟨hreq, hat, -⟩ := h
      rw [BankRecord.atRequest, hreq, Bool.and_eq_true, beq_iff_eq] at hat
      rw [hat.2]
      exact Bool.and_false _
  have record := State.wake_bank s b o unsettled
  unfold State.HandshakeOf State.bankState
  rw [record]
  exact ⟨rfl, unsettled, rfl⟩

theorem demand_handshake {s : State} {b : BankNo} (h : s.HandshakeOf b) : (s.demand b).HandshakeOf b := by
  cases hf : s.fitted b with
  | false =>
    rw [State.demand, if_neg (by rw [hf]; decide)]
    exact h
  | true =>
    cases hb : s.bankState b with
    | off => exact demand_rest (o := .off) hf hb ▸ wake_handshake (o := .off) h hb
    | retain => exact demand_rest (o := .retain) hf hb ▸ wake_handshake (o := .retain) h hb
    | descending o =>
      rw [demand_descending hf hb]
      unfold State.HandshakeOf State.bankState at *
      rw [State.setBank_same]
      exact h
    | _ =>
      rw [State.demand, if_pos hf, hb]
      exact h

namespace NoneEntersActive

theorem of_banks {s t : State} (h : t.banks = s.banks) : NoneEntersActive s t := by
  intro hs
  refine ⟨fun b => handshake_congr (by rw [h]) (hs b), fun b => ?_⟩
  rw [State.bankState, h]
  exact id

theorem trans {s t u : State} (h : NoneEntersActive s t) (h' : NoneEntersActive t u) : NoneEntersActive s u := by
  intro hs
  obtain ⟨ht, active⟩ := h hs
  obtain ⟨hu, active'⟩ := h' ht
  exact ⟨hu, fun b hb => active b (active' b hb)⟩

theorem demand (s : State) (b : BankNo) : NoneEntersActive s (s.demand b) := by
  intro hs
  refine ⟨fun c => ?_, fun c => (demand_enters_nothing (hs b) c).1⟩
  by_cases e : b = c
  · subst e
    exact demand_handshake (hs b)
  · exact handshake_congr (State.demand_other s e) (hs c)

theorem perform (s : State) (r : Request) (v : Verdict) : NoneEntersActive s (s.perform r v) := by
  cases v with
  | held reason =>
    cases reason with
    | bank => exact demand s r.bank
    | _ => exact of_banks rfl
  | _ => exact of_banks rfl

theorem reevaluate (s : State) (k : Nat) (e : Entry) : NoneEntersActive s (s.reevaluate k e) := by
  unfold State.reevaluate
  dsimp only
  split
  · exact .trans (of_banks (State.setStatus_banks ..)) (perform _ _ _)
  · exact .trans (of_banks (State.removeEntry_banks ..)) (perform _ _ _)

theorem sweep (rule : State → Nat → Entry → Visit) (fuel k : Nat) (s : State) :
    NoneEntersActive s (Machine.sweep rule fuel k s) :=
  sweep_relates (fun _ => of_banks rfl) trans (fun u k e _ _ => of_banks (State.answerEntry_banks u k e _ _))
    (fun u k e _ _ => reevaluate u k e) fuel k s

end NoneEntersActive

/-- Where every bank agrees with its lines, one walk is all that a release event brings (R60; log 15). -/
theorem releaseWalks_once {s : State} (h : ∀ b : BankNo, s.HandshakeOf b) (n : Nat) :
    State.releaseWalks (n + 1) s = s.releaseWalk := by
  have entered : State.enteredActive s s.releaseWalk = false := by
    simp only [State.enteredActive, List.any_eq_false, Bool.and_eq_true, bne_iff_ne, beq_iff_eq, not_and]
    exact fun b _ hn hb => hn ((NoneEntersActive.sweep _ _ _ s h).2 b hb)
  simp only [State.releaseWalks, entered]
  rfl

theorem runQueue_walked {s pre : State} {released : Bool} (hf : ∀ b, State.becameFrozen pre s b = false)
    (hr : (released || State.isRelease pre s) = true) (h : ∀ b : BankNo, s.HandshakeOf b) :
    State.runQueue pre released s = s.releaseWalk := by
  simp only [State.runQueue, hr, Bool.true_or, if_true, State.freezeReevaluation_quiet hf, releaseWalks_once h]

/-- What follows the queue's walks at the end of an event. -/
theorem finish_afterQueue {s pre w : State} {released : Bool} (h : State.runQueue pre released s = w) :
    TailEnd w (s.finish pre released) := by
  subst h
  exact tailEnd_of_parts ((PowerEnd.takeAgeExpiries pre _).trans (.pressureChoice _)) (.afterGrant _ pre)

theorem TailEnd.queueIsThatOf {w t : State} (h : TailEnd w t) : t.QueueIsThatOf w := by
  refine ⟨h.quiet.responses, h.quiet.requests, fun k e he => ?_, h.quiet.ageList, h.quiet.absorbed, h.quiet.served,
    fun i => ?_⟩
  · rcases h.statuses k e he with e' | ⟨hr, e'⟩
    · exact ⟨e, e', .inl rfl⟩
    · exact ⟨_, e', .inr ⟨hr, rfl⟩⟩
  · rcases h.slots i with e | ⟨l, hl, -, e⟩
    · rw [e]
    · rw [e, hl]
      rfl

/-! ## The entries -/

theorem eighth_eq_some (g : Fin 8) : eighth g.val = some g := by simp [eighth]

theorem eighth_eq_none {n : Nat} (h : 8 ≤ n) : eighth n = none := by simp [eighth, h]

theorem applies_iff (g : Region) (a : LineAddr) (i : Initiator) : g.applies a i = true ↔
    g.valid = true ∧ g.base ≤ a ∧ a ≤ g.limit ∧ g.initiators.getLsbD i.val = true := by
  simp only [Region.applies, Bool.and_eq_true, decide_eq_true_eq, BitVec.le_def, and_assoc]

/-- Settles O28: the first match of a list is the match that no match stands before. -/
theorem regionTableGivesTheFirstMatch : Obligations.RegionTableGivesTheFirstMatch := by
  intro r s
  simp only [← applies_iff]
  refine ⟨fun g hg hfirst => ?_, fun hnone => ?_⟩
  · have first : s.regions.toList.find? (fun x => x.applies r.line r.initiator) = some s.regions[g] := by
      refine List.find?_eq_some_iff_getElem.mpr ⟨hg, g.val, by simp, by simp, fun j hj => ?_⟩
      simpa using hfirst ⟨j, by omega⟩ hj
    rw [State.attributes, first]
  · have unmatched : s.regions.toList.find? (fun x => x.applies r.line r.initiator) = none := by
      refine List.find?_eq_none.mpr fun x hx => ?_
      obtain ⟨j, hj, rfl⟩ := List.mem_iff_getElem.mp hx
      simpa using hnone ⟨j, by simpa using hj⟩
    rw [State.attributes, unmatched]

/-- The bytes of an entry, its three flags as a number (Table 10-8). -/
theorem regionBytes_eq (g : Region) : g.bytes =
    [BitVec.ofNat 8 (g.valid.toNat + 2 * g.absorb.toNat + 4 * g.serve.toNat)] ++ bytesOf 3 g.base.toNat ++
      bytesOf 3 g.limit.toNat ++ [g.initiators] := by
  have flags : flagsValue [g.valid, g.absorb, g.serve] = g.valid.toNat + 2 * g.absorb.toNat + 4 * g.serve.toNat := by
    simp only [flagsValue]
    ring
  rw [Region.bytes, bytesOf_one, flags]

/-- Settles O47, by the layout of an entry. -/
theorem regionReadReturnsTheEntry : Obligations.RegionReadReturnsTheEntry := by
  intro s entry hw
  refine ⟨fun hn => ?_, fun g hg => ?_⟩
  · simp only [exec, execRegionRead, State.onFrame_taken hw, eighth_eq_none hn]
    rfl
  · rw [← regionBytes_eq]
    simp only [exec, execRegionRead, State.onFrame_taken hw, hg, eighth_eq_some]
    rfl

/-! ## The write of an entry -/

theorem linesInRange_iff (base limit : BitVec 24) :
    linesInRange base limit = true ↔ limit.toNat < 2097152 ∧ base.toNat ≤ limit.toNat := by
  simp only [linesInRange, Bool.and_eq_true, decide_eq_true_eq]
  omega

section
variable {s : State} {entry flags : Byte} {base limit : BitVec 24} {initiators : Byte} (hw : s.awaitRise = false)
include hw

theorem exec_regionWrite_badarg (h : 8 ≤ entry.toNat ∨ linesInRange base limit = false) :
    exec (.regionWrite entry flags base limit initiators) s = .next (s.reply 9 .badarg []) := by
  simp only [exec, execRegionWrite, State.onFrame_taken hw]
  by_cases hn : 8 ≤ entry.toNat
  · simp only [eighth_eq_none hn]
  · have hr := h.resolve_left hn
    simp only [eighth, Nat.not_le.mp hn, dite_true, State.writeRegion, hr]
    rfl

theorem exec_regionWrite {g : Fin 8} (hg : entry.toNat = g.val) (hr : linesInRange base limit = true) :
    exec (.regionWrite entry flags base limit initiators) s =
      .next (((s.withRegion g (.ofArguments flags base limit initiators)).finish s true).reply 9 .done []) := by
  simp only [exec, execRegionWrite, State.onFrame_taken hw, hg, eighth_eq_some, State.writeRegion, hr, if_true]
  rfl

end

/-- The change of an entry is a release event: one walk follows it where the banks agree with their lines (R37, R60). -/
theorem withRegion_walked {s : State} (g : Fin 8) (x : Region) (h : ∀ b : BankNo, s.HandshakeOf b) :
    TailEnd (s.withRegion g x).releaseWalk ((s.withRegion g x).finish s true) :=
  finish_afterQueue (runQueue_walked (State.becameFrozen_same rfl rfl) rfl h)

/-- A line address in range keeps its value in the entry. -/
theorem setWidth_line {a : BitVec 24} (h : a.toNat < 2097152) : (a.setWidth 21).toNat = a.toNat := by
  rw [BitVec.toNat_setWidth]
  exact Nat.mod_eq_of_lt h

/-- Settles O48: the entry is written before the end of the event, which is one walk and keeps the table. -/
theorem regionWriteReplacesOneEntry : Obligations.RegionWriteReplacesOneEntry := by
  intro s entry flags base limit initiators hw
  refine ⟨fun h => exec_regionWrite_badarg hw ?_, fun g hg hl hb => ?_⟩
  · rw [← Bool.not_eq_true, linesInRange_iff]
    omega
  · refine ⟨_, exec_regionWrite hw hg ((linesInRange_iff base limit).2 ⟨hl, hb⟩), ?_⟩
    have ends := finish_eventEnd (s.withRegion g (.ofArguments flags base limit initiators)) s true
    have walked := withRegion_walked (s := s) g (.ofArguments flags base limit initiators)
    generalize (s.withRegion g (.ofArguments flags base limit initiators)).finish s true = t at *
    have table : t.regions = updAt s.regions g fun _ => Region.ofArguments flags base limit initiators := ends.regions
    have here : t.regions[g] = Region.ofArguments flags base limit initiators := by rw [table, updAt_self]
    have others : ∀ h : Fin 8, h ≠ g → t.regions[h] = s.regions[h] := fun h hne => by
      rw [table, updAt_ne _ _ (Ne.symm hne)]
    simp only [State.reply_regions, here]
    refine ⟨rfl, others, rfl, rfl, rfl, setWidth_line (by omega), setWidth_line hl, rfl, fun hs => ?_⟩
    rw [table]
    exact (walked hs).queueIsThatOf

end Sys2Proof.Machine

/-! The order of the Hold Queue (R54, R65, R69). An event may leave an entry at head unevaluated or FAILED only where a
release walk follows it; the walk evaluates or answers every entry that it finds at head, oldest first, and what comes
after it leaves the queue but for the grant of a READY entry. -/

namespace Sys2Proof.Machine

/-! ## Counting in a list with one entry removed or changed -/

theorem countP_removed {α : Type} {l : List α} {k : Nat} {a : α} (h : l[k]? = some a) (p : α → Bool) :
    (l.eraseIdx k).countP p + (p a).toNat = l.countP p := by
  obtain ⟨hk, rfl⟩ := List.getElem?_eq_some_iff.mp h
  rw [(List.getElem_cons_eraseIdx_perm hk).countP_eq p |>.symm, List.countP_cons]
  cases p l[k] <;> rfl

theorem countP_changed {α : Type} {l : List α} {k : Nat} {a : α} (h : l[k]? = some a) (f : α → α) (p : α → Bool) :
    (l.modify k f).countP p + (p a).toNat = l.countP p + (p (f a)).toNat := by
  have changed : (l.modify k f)[k]? = some (f a) := by simp [h]
  have same : (l.modify k f).eraseIdx k = l.eraseIdx k := by
    refine List.ext_getElem? fun j => ?_
    simp only [List.getElem?_eraseIdx, List.getElem?_modify]
    split
    next hj => simp [show k ≠ j by omega]
    next hj => simp [show k ≠ j + 1 by omega]
  have before := countP_removed h p
  have after := countP_removed changed p
  rw [same] at after
  omega

namespace State

/-! ## The order of the entries -/

/-- The entries in their order (R54, R69) as far as place `n`: an entry at head before `n` has been evaluated and is not
FAILED, and every entry behind another of its initiator waits for its order or is FAILED. -/
def InOrderTo (n : Nat) (s : State) : Prop :=
  ∀ k e, s.queue[k]? = some e →
    (s.atHead k e = true → k < n → e.status ≠ .waiting .order ∧ e.status ≠ .failed) ∧
      (s.atHead k e = false → e.status = .waiting .order ∨ e.status = .failed)

theorem EntriesInOrder.to {s : State} (h : s.EntriesInOrder) (n : Nat) : s.InOrderTo n :=
  fun k e he => ⟨fun hh _ => (h k e he).1 hh, (h k e he).2⟩

theorem InOrderTo.whole {n : Nat} {s : State} (h : s.InOrderTo n) (hn : s.queue.length ≤ n) : s.EntriesInOrder := by
  intro k e he
  obtain ⟨hk, -⟩ := List.getElem?_eq_some_iff.mp he
  exact ⟨fun hh => (h k e he).1 hh (by omega), (h k e he).2⟩

/-- Whether an entry is at head depends on the requests alone. -/
theorem atHead_congr {s t : State} (h : t.queue.map Entry.request = s.queue.map Entry.request) (k : Nat) {e e' : Entry}
    (he : e'.request = e.request) : t.atHead k e' = s.atHead k e := by
  have requests : ∀ u : State, (u.queue.take k).all (fun x => x.request.initiator != e.request.initiator) =
      ((u.queue.map Entry.request).take k).all fun r => r.initiator != e.request.initiator := by
    intro u
    rw [← List.map_take, List.all_map]
    rfl
  rw [atHead, atHead, he, requests, requests, h]

/-- An entry at head stays so when another entry leaves. -/
theorem atHead_removed {s t : State} {k : Nat} (hq : t.queue = s.queue.eraseIdx k) {j : Nat} {e : Entry} :
    (j ≤ k → s.atHead j e = true → t.atHead j e = true) ∧
      (k ≤ j → s.atHead (j + 1) e = true → t.atHead j e = true) := by
  simp only [atHead_iff, hq, List.getElem?_eraseIdx]
  constructor
  · intro hj h i hi e' he'
    rw [if_pos (by omega)] at he'
    exact h i hi e' he'
  · intro hj h i hi e' he'
    split at he'
    · exact h i (by omega) e' he'
    · exact h (i + 1) (by omega) e' he'

namespace InOrderTo

variable {s t : State} {n k : Nat} {e : Entry}

theorem congr (h : s.InOrderTo n) (hq : t.queue = s.queue) : t.InOrderTo n := by
  intro j x hx
  rw [hq] at hx
  rw [atHead_congr (congrArg _ hq) j rfl]
  exact h j x hx

theorem mono {m : Nat} (h : s.InOrderTo n) (hm : m ≤ n) : s.InOrderTo m :=
  fun j x hx => ⟨fun hh hj => (h j x hx).1 hh (by omega), (h j x hx).2⟩

/-- An evaluated entry stands at head. -/
theorem atHead (h : s.InOrderTo n) (he : s.queue[k]? = some e) (h1 : e.status ≠ .waiting .order)
    (h2 : e.status ≠ .failed) : s.atHead k e = true := by
  by_contra hn
  exact ((h k e he).2 (by simpa using hn)).elim h1 h2

/-- The order reaches one place further over an entry that is evaluated or not at head. -/
theorem next (h : s.InOrderTo k) (he : s.queue[k]? = some e)
    (hv : s.atHead k e = true → e.status ≠ .waiting .order ∧ e.status ≠ .failed) : s.InOrderTo (k + 1) := by
  intro j x hx
  refine ⟨fun hh hj => ?_, (h j x hx).2⟩
  rcases Nat.lt_succ_iff_lt_or_eq.mp hj with hlt | rfl
  · exact (h j x hx).1 hh hlt
  · cases he.symm.trans hx
    exact hv hh

/-- An entry at head takes an evaluated status. -/
theorem setStatus (h : s.InOrderTo n) (he : s.queue[k]? = some e) (hh : s.atHead k e = true) {st : EntryStatus}
    (hst : st ≠ .waiting .order ∧ st ≠ .failed) : (s.setStatus k st).InOrderTo n := by
  intro j x hx
  have requests := setStatus_requests s k st
  rw [setStatus_queue, List.getElem?_modify] at hx
  by_cases ej : k = j
  · subst ej
    rw [he] at hx
    obtain rfl : { e with status := st } = x := by simpa using hx
    refine ⟨fun _ _ => hst, fun hn => ?_⟩
    rw [atHead_congr requests k (e := e) (e' := { e with status := st }) rfl, hh] at hn
    cases hn
  · rw [atHead_congr requests j rfl]
    exact h j x (by simpa [ej] using hx)

/-- An entry at or behind the place that the order has reached leaves. -/
theorem removed (h : s.InOrderTo n) (hn : n ≤ k) (hq : t.queue = s.queue.eraseIdx k) : t.InOrderTo n := by
  intro j x hx
  rw [hq, List.getElem?_eraseIdx] at hx
  obtain ⟨before, after⟩ := atHead_removed hq (j := j) (e := x)
  split at hx
  next hj =>
    refine ⟨fun hh hlt => (h j x hx).1 ?_ hlt, fun hh => (h j x hx).2 ?_⟩
    · rw [atHead_iff] at hh ⊢
      intro i hi x' hx'
      refine hh i hi x' ?_
      rw [hq, List.getElem?_eraseIdx, if_pos (by omega)]
      exact hx'
    · rw [Bool.eq_false_iff] at hh ⊢
      exact fun hs => hh (before (by omega) hs)
  next hj =>
    refine ⟨fun _ hlt => by omega, fun hh => (h (j + 1) x hx).2 ?_⟩
    rw [Bool.eq_false_iff] at hh ⊢
    exact fun hs => hh (after (by omega) hs)

/-- Entries become FAILED, at head or behind. -/
theorem failed (h : s.InOrderTo n) {f : Entry → Entry} (hq : t.queue = s.queue.map f)
    (hf : ∀ e, f e = e ∨ f e = { e with status := .failed }) : t.InOrderTo 0 := by
  have same : ∀ e, (f e).request = e.request := fun e => by rcases hf e with e' | e' <;> rw [e']
  have requests : t.queue.map Entry.request = s.queue.map Entry.request := by
    rw [hq, List.map_map]
    exact List.map_congr_left fun e _ => same e
  intro j x hx
  refine ⟨fun _ hj => by omega, fun hh => ?_⟩
  rw [hq, List.getElem?_map] at hx
  obtain ⟨e, he, rfl⟩ := Option.map_eq_some_iff.mp hx
  rw [atHead_congr requests j (same e)] at hh
  rcases hf e with e' | e'
  · rw [e']
    exact (h j e he).2 hh
  · exact .inr (by rw [e'])

end InOrderTo

/-- A request entered at the tail, with the status of its evaluation where no entry of its initiator waits. -/
theorem EntriesInOrder.entered {s t : State} {r : Request} {st : EntryStatus} (h : s.EntriesInOrder)
    (hq : t.queue = s.queue ++ [⟨r, st⟩])
    (hst : if s.unanswered r.initiator = 0 then st ≠ .waiting .order ∧ st ≠ .failed else st = .waiting .order) :
    t.EntriesInOrder := by
  intro k e he
  have head : ∀ j x, j ≤ s.queue.length → t.atHead j x = s.atHead j x := fun j x hj => by
    rw [State.atHead, State.atHead, hq, List.take_append_of_le_length hj]
  obtain ⟨hk, -⟩ := List.getElem?_eq_some_iff.mp he
  rw [hq, List.length_append, List.length_singleton] at hk
  rw [head k e (by omega)]
  rcases Nat.lt_succ_iff_lt_or_eq.mp hk with hlt | rfl
  · rw [hq, List.getElem?_append_left hlt] at he
    exact h k e he
  · obtain rfl : ⟨r, st⟩ = e := by simpa [hq] using he
    have alone : s.atHead s.queue.length ⟨r, st⟩ = true ↔ s.unanswered r.initiator = 0 := by
      simp [State.atHead, unanswered, List.countP_eq_zero]
    refine ⟨fun hh => ?_, fun hh => .inl ?_⟩
    · rwa [if_pos (alone.mp hh)] at hst
    · rwa [if_neg fun h0 => absurd (alone.mpr h0) (by rw [hh]; nofun)] at hst

/-! ## The ISSUED entry and the operation in flight -/

/-- The number of ISSUED entries. -/
def issuedCount (s : State) : Nat := s.queue.countP fun e => e.status == .issued

/-- One entry is ISSUED while an entry's operation is in flight, which is a word operation, and none otherwise (R54, R65). -/
structure IssuedExact (s : State) : Prop where
  count : s.issuedCount = if s.port.inFlight.map InFlight.presenter = some .entry then 1 else 0
  word : ∀ op, s.port.inFlight = some op → op.presenter = .entry → op.kind.isWord = true

theorem issuedInFlight_iff (s : State) : s.IssuedInFlight ↔ s.IssuedExact := by
  have positive : 0 < s.issuedCount ↔ ∃ e ∈ s.queue, e.status = .issued := by
    simp [issuedCount, List.countP_pos_iff]
  have presented : s.port.inFlight.map InFlight.presenter = some .entry ↔
      ∃ op, s.port.inFlight = some op ∧ op.presenter = .entry := Option.map_eq_some_iff
  constructor
  · rintro ⟨one, exact_, word⟩
    refine ⟨?_, word⟩
    rw [← positive, ← presented] at exact_
    change s.issuedCount ≤ 1 at one
    split
    next h => have := exact_.mpr h; omega
    next h => have := mt exact_.mp h; omega
  · rintro ⟨count, word⟩
    refine ⟨?_, ?_, word⟩
    · change s.issuedCount ≤ 1
      rw [count]
      split <;> omega
    · rw [← positive, ← presented, count]
      split <;> simp_all

theorem issuedCount_congr {s t : State} (h : t.queue = s.queue) : t.issuedCount = s.issuedCount := by
  rw [issuedCount, h, issuedCount]

section
variable {s t : State} {k : Nat} {e : Entry} (he : s.queue[k]? = some e)
include he

theorem issuedCount_removed (hq : t.queue = s.queue.eraseIdx k) :
    t.issuedCount + (e.status == .issued).toNat = s.issuedCount := by
  rw [issuedCount, hq]
  exact countP_removed he _

theorem issuedCount_setStatus (st : EntryStatus) :
    (s.setStatus k st).issuedCount + (e.status == .issued).toNat = s.issuedCount + (st == .issued).toNat := by
  rw [issuedCount, setStatus_queue]
  exact countP_changed he _ _

end

/-- An outcome that keeps a request gives it a status of an evaluated entry that is not ISSUED (R39). -/
theorem judge_status {s : State} {r : Request} {st : EntryStatus} (h : (s.judge r).entryStatus = some st) :
    (st ≠ .waiting .order ∧ st ≠ .failed) ∧ (st == .issued) = false := by
  have never := judge_ne_held_order s r
  cases hv : s.judge r with
  | forwarded =>
    rw [hv] at h
    cases h
    exact ⟨⟨nofun, nofun⟩, rfl⟩
  | held reason =>
    rw [hv] at h never
    cases h
    exact ⟨⟨fun e => never (by injection e with e; rw [e]), nofun⟩, rfl⟩
  | _ =>
    rw [hv] at h
    cases h

end State

/-! ## What follows an event -/

/-- No entry becomes ISSUED or ceases to be. -/
def IssuedKept (s t : State) : Prop := t.issuedCount = s.issuedCount

/-- An entry that is not ISSUED is answered and leaves. -/
theorem issuedKept_answered {s t : State} {k : Nat} {e : Entry} (he : s.queue[k]? = some e)
    (hs : e.status ≠ .issued) (hq : t.queue = s.queue.eraseIdx k) : IssuedKept s t := by
  have := State.issuedCount_removed he hq
  rwa [beq_eq_false_iff_ne.mpr hs] at this

/-- An entry that is not ISSUED is answered, or takes the status of its evaluation. -/
theorem issuedKept_reevaluate {s : State} {k : Nat} {e : Entry} (he : s.queue[k]? = some e)
    (hs : e.status ≠ .issued) : IssuedKept s (s.reevaluate k e) := by
  unfold State.reevaluate
  dsimp only
  split
  next st hv =>
    have kept := State.issuedCount_setStatus he st
    rw [beq_eq_false_iff_ne.mpr hs, (State.judge_status hv).2] at kept
    exact (State.issuedCount_congr (State.perform_enters (r := e.request) hv).1).trans kept
  next hv => exact issuedKept_answered he hs (State.perform_answers (s := s.removeEntry k) hv).1

theorem IssuedKept.sweep {rule : State → Nat → Entry → Visit}
    (hr : ∀ s k e, rule s k e ≠ .pass → e.status ≠ .issued) (fuel k : Nat) (s : State) :
    IssuedKept s (Machine.sweep rule fuel k s) :=
  sweep_relates (R := IssuedKept) (fun _ => rfl) (fun h h' => h'.trans h)
    (fun u k e he hv => issuedKept_answered he (hr u k e (by rw [hv]; nofun)) rfl)
    (fun u k e he hv => issuedKept_reevaluate he (hr u k e (by rw [hv]; nofun))) fuel k s

/-! ### The re-evaluation at a freeze -/

/-- The re-evaluation at a freeze keeps the order, or an entry that it answers leaves. -/
def FreezeKeeps (s t : State) : Prop :=
  s.InOrderTo 0 → t.InOrderTo 0 ∧ t.queue.length ≤ s.queue.length ∧
    (t.queue.length = s.queue.length → s.EntriesInOrder → t.EntriesInOrder)

theorem FreezeKeeps.refl (s : State) : FreezeKeeps s s := fun h => ⟨h, le_rfl, fun _ h => h⟩

theorem FreezeKeeps.trans {s t u : State} (h : FreezeKeeps s t) (h' : FreezeKeeps t u) : FreezeKeeps s u := by
  intro hs
  obtain ⟨ht, le, whole⟩ := h hs
  obtain ⟨hu, le', whole'⟩ := h' ht
  exact ⟨hu, by omega, fun hl x => whole' (by omega) (whole (by omega) x)⟩

theorem FreezeKeeps.reevaluate {s : State} {k : Nat} {e : Entry} (he : s.queue[k]? = some e) (hr : e.status = .ready) :
    FreezeKeeps s (s.reevaluate k e) := by
  intro hs
  have hh : s.atHead k e = true := hs.atHead he (by rw [hr]; nofun) (by rw [hr]; nofun)
  unfold State.reevaluate
  dsimp only
  split
  next st hv =>
    obtain ⟨hst, -⟩ := State.judge_status hv
    have hq := (State.perform_enters (s := s.setStatus k st) (r := e.request) hv).1
    have length : ((s.setStatus k st).perform e.request (s.judge e.request)).queue.length = s.queue.length := by
      rw [hq, State.setStatus_queue, List.length_modify]
    exact ⟨(hs.setStatus he hh hst).congr hq, length.le, fun _ whole =>
      (((whole.to s.queue.length).setStatus he hh hst).congr hq).whole length.le⟩
  next hv =>
    have hq := (State.perform_answers (s := s.removeEntry k) (r := e.request) hv).1
    have shorter : ((s.removeEntry k).perform e.request (s.judge e.request)).queue.length < s.queue.length := by
      obtain ⟨hk, -⟩ := List.getElem?_eq_some_iff.mp he
      rw [hq, State.removeEntry_queue, List.length_eraseIdx_of_lt hk]
      omega
    exact ⟨hs.removed (Nat.zero_le k) hq, shorter.le, fun hl => absurd hl shorter.ne⟩

theorem FreezeKeeps.freezeReevaluation (pre s : State) : FreezeKeeps s (State.freezeReevaluation pre s) :=
  sweep_relates .refl .trans (fun u k e _ hv => absurd hv (freezeRule_ne_fail pre s u k e))
    (fun u k e he hv => .reevaluate he ((freezeRule_evaluate_iff pre s u k e).mp hv).1) _ _ s

/-! ### The release walk -/

/-- A walk with a visit for each entry left puts the entries in order from the place that it has reached (R61). -/
theorem walk_ordered (fuel k : Nat) (s : State) (h : s.InOrderTo k) (hf : s.queue.length ≤ k + fuel) :
    (sweep State.walkRule fuel k s).EntriesInOrder := by
  induction fuel generalizing k s with
  | zero => exact h.whole hf
  | succ fuel ih =>
    have left : ∀ t : State, t.queue = s.queue.eraseIdx k → k < s.queue.length →
        (sweep State.walkRule fuel k t).EntriesInOrder := by
      intro t hq hk
      refine ih k t (h.removed le_rfl hq) ?_
      rw [hq, List.length_eraseIdx_of_lt hk]
      omega
    cases he : s.queue[k]? with
    | none =>
      rw [sweep_end he]
      exact h.whole (List.getElem?_eq_none_iff.mp he)
    | some e =>
      obtain ⟨hk, -⟩ := List.getElem?_eq_some_iff.mp he
      cases hv : State.walkRule s k e with
      | pass =>
        rw [sweep_passed he hv]
        refine ih (k + 1) s (h.next he fun hh => ?_) (by omega)
        rw [State.walkRule, if_pos hh] at hv
        cases hs : e.status with
        | waiting reason => rw [hs] at hv; cases hv
        | failed => rw [hs] at hv; cases hv
        | _ => exact ⟨nofun, nofun⟩
      | fail =>
        rw [sweep_failed he hv]
        exact left _ rfl hk
      | evaluate =>
        obtain ⟨hh, -⟩ := (walkRule_evaluate_iff s k e).mp hv
        cases hj : (s.judge e.request).entryStatus with
        | none =>
          rw [sweep_answered he hv hj]
          exact left _ (State.perform_answers (s := s.removeEntry k) hj).1 hk
        | some st =>
          rw [sweep_kept he hv hj]
          have hq := (State.perform_enters (s := s.setStatus k st) (r := e.request) hj).1
          obtain ⟨hst, -⟩ := State.judge_status hj
          have taken : (s.setStatus k st).queue[k]? = some { e with status := st } := by simp [he]
          refine ih (k + 1) _ (((h.setStatus he hh hst).next taken fun _ => hst).congr hq) ?_
          rw [hq, State.setStatus_queue, List.length_modify]
          omega

theorem releaseWalk_ordered {s : State} (h : s.InOrderTo 0) : s.releaseWalk.EntriesInOrder :=
  walk_ordered _ 0 s h (by omega)

theorem releaseWalks_ordered (n : Nat) {s : State} (h : s.InOrderTo 0) : (State.releaseWalks (n + 1) s).EntriesInOrder := by
  induction n generalizing s with
  | zero =>
    simp only [State.releaseWalks, ite_self]
    exact releaseWalk_ordered h
  | succ n ih =>
    rw [State.releaseWalks]
    split
    · exact ih ((releaseWalk_ordered h).to 0)
    · exact releaseWalk_ordered h

theorem IssuedKept.releaseWalks (n : Nat) (s : State) : IssuedKept s (State.releaseWalks n s) := by
  have walk : ∀ u : State, IssuedKept u u.releaseWalk := fun u =>
    sweep (fun v k e hv hs => hv (by simp [State.walkRule, hs])) _ _ u
  induction n generalizing s with
  | zero => exact rfl
  | succ n ih =>
    unfold State.releaseWalks
    dsimp only
    split
    · exact (ih _).trans (walk s)
    · exact walk s

/-! ### The end of an event -/

/-- An event whose own effect leaves entries at head unevaluated or FAILED has a release walk, which puts them in order. -/
theorem runQueue_ordered {pre s : State} {released : Bool} (h : s.InOrderTo 0)
    (hw : s.EntriesInOrder ∨ (released || State.isRelease pre s) = true) :
    (State.runQueue pre released s).EntriesInOrder := by
  obtain ⟨kept, -, whole⟩ := FreezeKeeps.freezeReevaluation pre s h
  unfold State.runQueue
  dsimp only
  split
  · exact releaseWalks_ordered 8 kept
  next hn =>
    simp only [Bool.or_eq_true, not_or, bne_iff_ne, ne_eq, not_not] at hn hw
    obtain ⟨hr, length⟩ := hn
    exact whole length (hw.resolve_right fun x => x.elim hr.1 hr.2)

theorem IssuedKept.runQueue (pre : State) (released : Bool) (s : State) : IssuedKept s (State.runQueue pre released s) := by
  have frozen : IssuedKept s (State.freezeReevaluation pre s) :=
    sweep (fun v k e hv hs => hv (by simp [State.freezeRule, hs])) _ _ s
  unfold State.runQueue
  dsimp only
  split
  · exact (releaseWalks _ _).trans frozen
  · exact frozen

/-- The entries in their order, and the ISSUED one in flight (R54, R65, R69). -/
structure Orderly (s : State) : Prop where
  entries : s.EntriesInOrder
  issued : s.IssuedExact

theorem State.IssuedExact.congr {s t : State} (h : s.IssuedExact) (hc : IssuedKept s t)
    (hp : t.port.inFlight = s.port.inFlight) : t.IssuedExact :=
  ⟨by rw [hc, hp]; exact h.count, by rw [hp]; exact h.word⟩

theorem Orderly.congr {s t : State} (h : Orderly s) (hq : t.queue = s.queue) (hp : t.port.inFlight = s.port.inFlight) :
    Orderly t :=
  ⟨((h.entries.to _).congr hq).whole le_rfl, h.issued.congr (State.issuedCount_congr hq) hp⟩

theorem PowerEnd.orderly {s t : State} (h : PowerEnd s t) (hs : Orderly s) : Orderly t :=
  hs.congr h.queue (by rw [h.port])

theorem grantEntry_port {s : State} {k : Nat} {e : Entry} (he : s.queue[k]? = some e) :
    ∃ op, (s.grantEntry k).port.inFlight = some op ∧ op.presenter = .entry ∧ op.kind.isWord = true := by
  unfold State.grantEntry
  split
  next hn => exact absurd (he.symm.trans hn) nofun
  · dsimp only
    split <;> exact ⟨_, rfl, rfl, rfl⟩

theorem grantDrain_port {s : State} {i : SlotNo} (cls : DrainClass) (h : s.isCandidate false i = true) :
    ∃ op, (s.grantDrain i cls).port.inFlight = some op ∧ op.presenter = .slot i := by
  obtain ⟨l, hl, -⟩ := isCandidate_some h
  unfold State.grantDrain
  split
  next hn => exact absurd (hl.symm.trans hn) nofun
  · cases cls <;> exact ⟨_, rfl, rfl⟩

/-- The grant issues a READY entry, which stands at head, or leaves the queue (R65, R134). -/
theorem grant_orderly {s : State} (h : Orderly s) : Orderly s.grant := by
  obtain ⟨entries, issued⟩ := h
  by_cases free : s.port.inFlight = none
  · have none_issued : s.issuedCount = 0 := by rw [issued.count, free]; rfl
    have other : ∀ {t : State} {op : InFlight}, t.queue = s.queue → t.port.inFlight = some op →
        op.presenter ≠ .entry →
        Orderly t := by
      intro t op hq hp hne
      refine ⟨((entries.to _).congr hq).whole le_rfl, ?_, fun op' hop hpr => ?_⟩
      · rw [State.issuedCount_congr hq, none_issued, hp]
        simp [hne]
      · cases hop.symm.trans hp
        exact absurd hpr hne
    rcases grant_cases s with ⟨e, -⟩ | ⟨k, e, hk⟩ | ⟨i, cls, e, hi⟩ | ⟨b, e, -⟩ <;> rw [e]
    · exact ⟨entries, issued⟩
    · obtain ⟨x, hx, hr, -⟩ := readyEntry_some hk
      obtain ⟨op, hp, hpr, hw⟩ := grantEntry_port hx
      have hh : s.atHead k x = true := (entries.to 0).atHead hx (by rw [hr]; nofun) (by rw [hr]; nofun)
      have queue := grantEntry_queue hx
      have count := State.issuedCount_setStatus hx .issued
      refine ⟨?_, ?_, fun op' hop _ => ?_⟩
      · refine (((entries.to s.queue.length).setStatus hx hh (st := .issued) ⟨nofun, nofun⟩).congr queue).whole ?_
        rw [queue, State.setStatus_queue, List.length_modify]
      · rw [State.issuedCount_congr queue, hp, Option.map_some, hpr, if_pos rfl]
        rw [hr, none_issued] at count
        exact count
      · cases hop.symm.trans hp
        exact hw
    · obtain ⟨op, hp, hpr⟩ := grantDrain_port cls hi
      exact other (grantDrain_queue s i cls) hp (by rw [hpr]; nofun)
    · exact other rfl rfl nofun
  · have kept : s.grant = s := by
      rw [State.grant, if_pos]
      simp [Option.isSome_iff_ne_none.mpr free]
    rw [kept]
    exact ⟨entries, issued⟩

section
variable {u pre : State} {released : Bool} (h : u.InOrderTo 0) (hi : u.IssuedExact)
  (hw : u.EntriesInOrder ∨ (released || State.isRelease pre u) = true)
include h hi hw

theorem untilGrant_orderly : Orderly (u.untilGrant pre released) := by
  have walked : Orderly (State.runQueue pre released u) :=
    ⟨runQueue_ordered h hw, hi.congr (.runQueue pre released u) (by rw [(PortKept.runQueue pre released u).port])⟩
  exact ((PowerEnd.takeAgeExpiries pre _).trans (.pressureChoice _)).orderly walked

theorem finish_orderly : Orderly (u.finish pre released) :=
  (PowerEnd.afterGrant _ pre).orderly (grant_orderly (untilGrant_orderly h hi hw))

theorem finishCompletion_orderly : Orderly (u.finishCompletion pre released) := by
  unfold State.finishCompletion
  split
  · exact (PowerEnd.afterGrant _ pre).orderly (untilGrant_orderly h hi hw)
  · exact finish_orderly h hi hw

end

/-! ## A command's own effect on the Hold Queue -/

/-- The Hold Queue and the operation in flight stay. -/
structure QueueKept (s t : State) : Prop where
  queue : t.queue = s.queue := by rfl
  inFlight : t.port.inFlight = s.port.inFlight := by rfl

namespace QueueKept

theorem refl (s : State) : QueueKept s s := {}

theorem trans {s t u : State} (h : QueueKept s t) (h' : QueueKept t u) : QueueKept s u :=
  ⟨h'.queue.trans h.queue, h'.inFlight.trans h.inFlight⟩

theorem foldl {α : Type} {f : State → α → State} (hf : ∀ s a, QueueKept s (f s a)) (l : List α) (s : State) :
    QueueKept s (l.foldl f s) := by
  induction l generalizing s with
  | nil => exact .refl s
  | cons a l ih => exact (hf s a).trans (ih _)

theorem addCause (s : State) (b : BankNo) (f : DrainCauses → DrainCauses) : QueueKept s (s.addCause b f) :=
  ⟨by simp, by simp⟩

theorem wake (s : State) (b : BankNo) (o : Rest) : QueueKept s (s.wake b o) := ⟨by simp, by simp⟩

theorem descend (s : State) (b : BankNo) (o : Rest) : QueueKept s (s.descend b o) := ⟨by simp, by simp⟩

theorem settleWaking (s : State) (b : BankNo) (o : Rest) : QueueKept s (s.settleWaking b o) := ⟨by simp, by simp⟩

theorem settleDescending (s : State) (b : BankNo) (o : Rest) : QueueKept s (s.settleDescending b o) :=
  ⟨by simp, by simp⟩

theorem enterWarn (s : State) : QueueKept s s.enterWarn :=
  .trans (t := { s with mode := .warn }) {} (foldl (fun t b => addCause t b _) _ _)

theorem leaveWarn (s : State) : QueueKept s s.leaveWarn := by
  unfold State.leaveWarn
  split <;> exact {}

theorem flushEvery (s : State) : QueueKept s s.flushEvery := by
  refine foldl (fun t b => ?_) _ s
  split
  · exact addCause t b _
  · exact .refl t

theorem removeHead (s : State) : QueueKept s s.removeHead := by
  unfold State.removeHead
  split
  · exact .refl s
  · exact ⟨by simp, by simp⟩

theorem clearUnlogged (s : State) (b : BankNo) : QueueKept s (s.clearUnlogged b) :=
  ⟨by simp [State.clearUnlogged], by simp [State.clearUnlogged]⟩

theorem discardBank (s : State) (b : BankNo) : QueueKept s (s.discardBank b) := by
  refine ⟨discardBank_queue s b, ?_⟩
  rw [discardBank_eq, State.descend_port]
  simp [discarded]

theorem milliStep (s : State) : QueueKept s s.milliStep := by
  unfold State.milliStep
  generalize s.store.ageAll = st
  dsimp only
  split
  · exact {}
  · exact {}

end QueueKept

/-! ### A bank that becomes STUCK, and a refit -/

/-- A bank is left as it is, or becomes STUCK and its entries FAILED, all but an ISSUED one (R67, R86). -/
theorem makeStuck_cases (s : State) (b : BankNo) : s.makeStuck b = s ∨
    ((s.bankState b).isStuck = false ∧ ((s.makeStuck b).bankState b).isStuck = true ∧
      (s.makeStuck b).queue = s.queue.map fun e =>
        if e.request.bank == b && e.status != .issued then { e with status := .failed } else e) := by
  by_cases h : s.fitted b = true ∧ (s.bankState b).isStuck = false
  · obtain ⟨hf, hs⟩ := h
    refine .inr ⟨hs, by rw [State.bankState, State.makeStuck_bank s b hf hs]; rfl, ?_⟩
    simp [State.makeStuck, hf, hs, State.markFailed]
  · refine .inl (State.makeStuck_already s b ?_)
    rw [not_and_or] at h
    simpa using h

theorem makeStuck_failed {s : State} {b : BankNo} {n : Nat} (h : s.InOrderTo n) : (s.makeStuck b).InOrderTo 0 := by
  rcases makeStuck_cases s b with e | ⟨-, -, hq⟩
  · rw [e]
    exact h.mono (Nat.zero_le n)
  · refine h.failed hq fun e => ?_
    split
    · exact .inr rfl
    · exact .inl rfl

theorem makeStuck_issued (s : State) (b : BankNo) : IssuedKept s (s.makeStuck b) := by
  rcases makeStuck_cases s b with e | ⟨-, -, hq⟩
  · rw [e]
    rfl
  · rw [IssuedKept, State.issuedCount, hq, List.countP_map]
    refine List.countP_congr fun e _ => ?_
    by_cases hi : e.status = .issued
    · simp [hi]
    · by_cases hb : e.request.bank = b <;> simp [hi, hb]

theorem isRelease_of_stuck {pre s : State} {b : BankNo} (hp : (pre.bankState b).isStuck = false)
    (hs : (s.bankState b).isStuck = true) : State.isRelease pre s = true := by
  have stuck : State.becameStuck pre s = true := List.any_eq_true.mpr ⟨b, List.mem_finRange b, by simp [hp, hs]⟩
  simp [State.isRelease, stuck]

/-- Where a bank becomes STUCK and may leave entries at head FAILED, the event is a release event (R60). -/
theorem makeStuck_walk {pre s u : State} {b : BankNo} (hb : s.bankState b = pre.bankState b)
    (hu : u.queue = (s.makeStuck b).queue) (hk : u.banks = (s.makeStuck b).banks) :
    u.queue = s.queue ∨ State.isRelease pre u = true := by
  rcases makeStuck_cases s b with e | ⟨hs, hs', -⟩
  · exact .inl (by rw [hu, e])
  · refine .inr (isRelease_of_stuck (b := b) (by rw [← hb]; exact hs) ?_)
    rw [State.bankState, hk]
    exact hs'

theorem failBank_queue_banks (s : State) (b : BankNo) (kind : FaultKind) :
    (s.failBank b kind).queue = (s.makeStuck b).queue ∧ (s.failBank b kind).banks = (s.makeStuck b).banks := by
  simp [State.failBank]

theorem failBank_empty {s : State} (h : s.queue = []) (b : BankNo) (kind : FaultKind) : (s.failBank b kind).queue = [] := by
  rw [(failBank_queue_banks s b kind).1]
  rcases makeStuck_cases s b with e | ⟨-, -, hq⟩
  · rw [e, h]
  · rw [hq, h, List.map_nil]

/-- BANKS FITTED changes only while no request waits (R191). -/
theorem refit_kept {s : State} (v : BitVec 16) (h : s.queue = []) : QueueKept s (s.refit v) := by
  have fit : ∀ (old new : Nat) (t : State) (b : BankNo), t.queue = [] → QueueKept t (t.fitBank old new b) := by
    intro old new t b ht
    have failed : ∀ u : State, u.queue = [] → QueueKept u (u.failBank b .unsolicitedChange) := fun u hu =>
      ⟨by rw [failBank_empty hu, hu], by simp⟩
    unfold State.fitBank State.sampleAtRest
    split
    · dsimp only
      split
      · exact {}
      · refine .trans ?_ (failed _ ?_)
        · exact {}
        · exact ht
    · exact {}
  suffices ∀ (banks : List BankNo) (t : State), t.queue = [] →
      QueueKept t (banks.foldl (State.fitBank s.regs.banksFitted.toNat (v.extractLsb' 0 4).toNat) t) from
    .trans (t := { s with regs := { s.regs with banksFitted := v.extractLsb' 0 4 } }) {} (this _ _ h)
  intro banks
  induction banks with
  | nil => exact fun t _ => .refl t
  | cons b banks ih =>
    intro t ht
    have kept := fit s.regs.banksFitted.toNat (v.extractLsb' 0 4).toNat t b ht
    exact kept.trans (ih _ (kept.queue.trans ht))

/-! ## Every command, as the Hold Queue sees it -/

/-- What a command does to the Hold Queue and the operation in flight, with the walk that may follow. -/
inductive QueueEvent (s : State) : State → Prop where
  | kept {t : State} (h : QueueKept s t) : QueueEvent s t
  | ended {u : State} (h : QueueKept s u) (pre : State) (released : Bool) : QueueEvent s (u.finish pre released)
  | replied {v : State} (h : QueueEvent s v) (n : Nat) (status : MgmtStatus) (results : List Byte) :
      QueueEvent s (v.reply n status results)
  | taken (r : Request) (h : s.mayTake r = true) : QueueEvent s ((s.takeRequest r).finish s false)
  | completed (op : InFlight) (report : Report) (data : Vector Word 8) (h : s.port.inFlight = some op) :
      QueueEvent s (((s.endOperation op.bank).route op report data).finishCompletion s op.kind.isWord)
  | timedOut (op : InFlight) (h : s.port.inFlight = some op) : QueueEvent s ((s.timeOut op).finish s op.kind.isWord)
  | failed {u : State} (b : BankNo) (kind : FaultKind) (h : QueueKept s u) (hb : u.bankState b = s.bankState b) :
      QueueEvent s ((u.failBank b kind).finish s false)
  | emptied {t : State} (hq : t.queue = []) (hp : t.port.inFlight = none) : QueueEvent s t

/-- Every next state of an outcome is what the Hold Queue sees of a command. -/
def QueueEvents (s : State) (o : Host.Outcome State Fault Refusal) : Prop := ∀ t, o = .next t → QueueEvent s t

namespace QueueEvents

variable {s u : State}

theorem next (h : QueueEvent s u) : QueueEvents s (.next u) := by
  rintro _ ⟨⟩
  exact h

theorem kept (h : QueueKept s u) : QueueEvents s (.next u) := next (.kept h)

theorem unchanged : QueueEvents s (.next s) := kept {}

theorem reply {n : Nat} {status : MgmtStatus} {results : List Byte} : QueueEvents s (.next (s.reply n status results)) :=
  kept {}

theorem ended (h : QueueKept s u) {pre : State} {released : Bool} : QueueEvents s (.next (u.finish pre released)) :=
  next (.ended h pre released)

theorem onFrame {e : Host.Outcome State Fault Refusal} (h : QueueEvents s e) : QueueEvents s (s.onFrame e) := by
  intro t ht
  rcases State.onFrame_next ht with ⟨-, rfl⟩ | ⟨-, he⟩
  · exact .kept {}
  · exact h t he

theorem cond {p : Prop} [Decidable p] {a b : Host.Outcome State Fault Refusal} (ha : p → QueueEvents s a)
    (hb : QueueEvents s b) : QueueEvents s (if p then a else b) := by
  split
  next h => exact ha h
  · exact hb

end QueueEvents

namespace QueueEvent
open QueueEvents (next kept ended unchanged reply)

theorem lineChange (s : State) (b : BankNo) (level : StatusLevel) (settled : Bool) :
    QueueEvent s ((s.drive b level settled).lineChange s b) := by
  have sampled : QueueKept s ((s.drive b level settled).sampleLines b) := {}
  have state : ((s.drive b level settled).sampleLines b).bankState b = s.bankState b := by
    rw [State.bankState, State.sampleLines, State.setBank_same]
    rfl
  have changed : QueueEvent s ((s.drive b level settled).settledChange s b) := by
    unfold State.settledChange
    split
    · exact .failed b _ sampled state
    · exact .kept sampled
  unfold State.lineChange
  dsimp only
  split
  next o _ =>
    split
    · exact .ended (sampled.trans (.settleWaking _ b o)) _ _
    · exact .kept sampled
  next o _ =>
    split
    · exact .ended (sampled.trans (.settleDescending _ b o)) _ _
    · exact .kept sampled
  · exact .kept sampled
  all_goals exact changed

/-! ### The management port -/

theorem writeInRange {s : State} {c : Bool} {effect : State → State} (h : QueueEvent s (effect s)) :
    QueueEvent s (s.writeInRange c effect) := by
  unfold State.writeInRange
  split
  · exact h.replied ..
  · exact .kept {}

theorem writeConfig (s : State) (v : BitVec 16) : QueueEvent s (s.writeConfig v) := by
  have divided : QueueKept s (s.setTickDiv v) := {}
  unfold State.writeConfig
  split
  · split
    · exact .replied (.kept divided) ..
    · split
      next hm =>
        have empty : s.queue = [] := by
          simp only [State.mayRefit, Bool.and_eq_true, List.isEmpty_iff] at hm
          exact hm.2
        exact .replied (.ended (divided.trans (refit_kept (s := s.setTickDiv v) v empty)) ..) ..
      · exact .kept {}
  · exact .kept {}

theorem captureLow (s : State) (r : Register) : QueueKept s (s.captureLow r) := by cases r <;> exact {}

theorem regWrite (number : Byte) (v : BitVec 16) (s : State) : QueueEvents s (execRegWrite number v s) := by
  refine .onFrame ?_
  split
  · exact reply
  iterate 2 exact next (writeInRange (.kept {}))
  iterate 9 exact reply
  · exact next (writeConfig s v)
  iterate 2 exact next (writeInRange (.ended {} ..))
  iterate 5 exact next (writeInRange (.kept {}))

theorem counterHighRead (number : Byte) (s : State) : QueueEvents s (execCounterHighRead number s) := by
  refine .onFrame ?_
  split
  · exact reply
  next r _ => exact next (.replied (.kept (captureLow s r)) ..)

theorem regionWrite (entry flags : Byte) (base limit : BitVec 24) (initiators : Byte) (s : State) :
    QueueEvents s (execRegionWrite entry flags base limit initiators s) := by
  refine .onFrame ?_
  split
  next g _ =>
    have written : QueueKept s (s.withRegion g (.ofArguments flags base limit initiators)) := {}
    refine next ?_
    unfold State.writeRegion
    split
    · exact .replied (.ended written ..) ..
    · exact .kept {}
  · exact reply

theorem faultPopRemoval (shifted : Nat) (s : State) : QueueEvents s (execFaultPopRemoval shifted s) := by
  have left : QueueKept s s.endFrame := {}
  unfold execFaultPopRemoval
  split
  · exact .kept left
  · exact .cond (fun _ => .ended (left.trans (.removeHead _))) (.kept left)

theorem flush (bank : Byte) (s : State) : QueueEvents s (execFlush bank s) := by
  refine .onFrame ?_
  split
  · exact reply
  next b _ =>
    refine next ?_
    unfold State.orderFlush
    split
    · exact .kept {}
    · split
      · exact .kept {}
      · exact .replied (.ended (.addCause s b _) ..) ..

/-! ### Orders -/

theorem order (s : State) (bank : Byte) {action : BankNo → State} (h : ∀ b, QueueEvent s (action b)) :
    QueueEvents s (s.onFrame (.next (s.order bank action))) := by
  refine .onFrame (next ?_)
  unfold State.order
  split
  · exact .kept {}
  · split
    · exact h _
    · exact .kept {}

theorem accept {s u : State} (h : QueueKept s u) : QueueEvent s (s.accept u) := .replied (.ended h ..) ..

theorem refusal (s : State) (status : MgmtStatus) : QueueEvent s (s.replyOrder status) := .kept {}

theorem orderWake (s : State) (b : BankNo) : QueueEvent s (s.orderWake b) := by
  unfold State.orderWake
  split
  · exact accept (.wake s b .off)
  · exact accept (.wake s b .retain)
  · exact .kept {}
  · split
    · exact accept {}
    · exact refusal s _
  all_goals exact refusal s _

theorem orderRetain (s : State) (b : BankNo) : QueueEvent s (s.orderRetain b) := by
  unfold State.orderRetain
  iterate 3
    split
    · exact refusal s _
  exact accept (.descend s b .retain)

theorem orderOff (s : State) (b : BankNo) : QueueEvent s (s.orderOff b) := by
  unfold State.orderOff
  split
  · split
    · exact refusal s _
    · exact accept (.descend s b .off)
  · exact refusal s _

theorem orderRetry (s : State) (b : BankNo) : QueueEvent s (s.orderRetry b) := by
  unfold State.orderRetry
  split
  · exact accept (.wake s b _)
  all_goals exact refusal s _

theorem orderDiscard (s : State) (b : BankNo) : QueueEvent s (s.orderDiscard b) := by
  unfold State.orderDiscard
  split
  · exact accept (.discardBank s b)
  · exact refusal s _

theorem orderClear (s : State) (b : BankNo) : QueueEvent s (s.orderClear b) := by
  have pending : QueueKept s (s.setClearPending b true) := {}
  unfold State.orderClear
  split
  · exact refusal s _
  · split
    · exact accept {}
    · exact accept (pending.trans (.wake _ b .off))
    · exact accept (pending.trans (.wake _ b .retain))
    all_goals exact refusal s _

theorem orderUnlost (s : State) (b : BankNo) : QueueEvent s (s.orderUnlost b) := by
  unfold State.orderUnlost
  split
  · exact refusal s _
  · exact .kept {}

/-! ### The ports and the level inputs -/

theorem requestTaken (r : Request) (s : State) : QueueEvents s (execRequestTaken r s) := by
  unfold execRequestTaken
  split
  · exact .cond (fun h => next (.taken r h)) unchanged
  · rintro _ ⟨⟩

theorem completion (number : BitVec 8) (report : Report) (data : Vector Word 8) (s : State) :
    QueueEvents s (execCompletion number report data s) := by
  have late : QueueKept s s.lateCompletion := {}
  unfold execCompletion
  split
  next op h => exact .cond (fun _ => next (.completed op report data h)) (.kept late)
  · exact .kept late

theorem accessTimeout (s : State) : QueueEvents s (execAccessTimeout s) := by
  unfold execAccessTimeout
  split
  next op h => exact next (.timedOut op h)
  · exact unchanged

theorem resetnAssertion (s : State) : QueueEvents s (exec .resetnAssertion s) := by
  cases hr : s.pins.resetn with
  | true =>
    have same : exec .resetnAssertion s = .next s := if_pos hr
    rw [same]
    exact unchanged
  | false =>
    have power := resetAsserted_power s
    rw [exec_resetnAssertion hr]
    exact next (.emptied power.queue (by rw [power.port]; rfl))

theorem powerOnReset (s : State) : QueueEvents s (exec .powerOnReset s) := by
  obtain ⟨t, ht, -, -, -, hq, -, hp, -⟩ := powerOnResetGivesThePowerOnValues.2 s
  rw [ht]
  exact next (.emptied hq (by rw [hp]; rfl))

end QueueEvent

open QueueEvents (next kept ended unchanged reply) in
/-- What each command does, as the Hold Queue sees it. -/
theorem exec_queueEvent {c : Instr} {s t : State} (h : exec c s = .next t) : QueueEvent s t := by
  suffices ho : QueueEvents s (exec c s) from ho t h
  cases c with
  | requestTaken r => exact QueueEvent.requestTaken r s
  | completion number report data => exact QueueEvent.completion number report data s
  | accessTimeout => exact QueueEvent.accessTimeout s
  | settleTimeout b => exact .cond (fun _ => next (.failed b _ {} rfl)) unchanged
  | statusLineChange b level settled => exact .cond (fun _ => next (.lineChange s b level settled)) (kept {})
  | idleTimerExpiry b => exact .cond (fun _ => ended (.descend s b .retain)) unchanged
  | offTimerExpiry b => exact .cond (fun _ => ended (.descend s b .off)) unchanged
  | ageExpiry b => exact .cond (fun _ => ended (.addCause s b _)) unchanged
  | supwarnAssertion =>
    have driven : QueueKept s (s.driveSupwarn true) := {}
    exact .cond (fun _ => unchanged) (ended (driven.trans (.enterWarn _)))
  | supwarnNegation =>
    have driven : QueueKept s (s.driveSupwarn false) := {}
    exact .cond (fun _ => ended (driven.trans (.leaveWarn _))) unchanged
  | fltpassAssertion => exact .cond (fun _ => unchanged) (ended {})
  | fltpassNegation => exact .cond (fun _ => ended {}) unchanged
  | resetnAssertion => exact QueueEvent.resetnAssertion s
  | resetnNegation => exact .cond (fun _ => ended {}) unchanged
  | powerOnReset => exact QueueEvent.powerOnReset s
  | invalidCommand frame =>
    exact .cond (fun _ => .onFrame reply) (.cond (fun _ => .onFrame (kept {})) (fun _ he => nomatch he))
  | status => exact .onFrame reply
  | counterHighRead number => exact QueueEvent.counterHighRead number s
  | regWrite number v => exact QueueEvent.regWrite number v s
  | configWrite v => exact .onFrame (next (.writeConfig s v))
  | hwmWrite v => exact .onFrame (next (.writeInRange (.ended {} ..)))
  | ageLimitWrite v => exact .onFrame (next (.writeInRange (.ended {} ..)))
  | irqStatusWrite v => exact .onFrame (next (.writeInRange (.kept {})))
  | irqEnableWrite v => exact .onFrame (next (.writeInRange (.kept {})))
  | resetRecordWrite v => exact .onFrame (next (.writeInRange (.kept {})))
  | bankPolicyAWrite b v => exact .onFrame (next (.writeInRange (.kept {})))
  | bankPolicyBWrite b v => exact .onFrame (next (.writeInRange (.kept {})))
  | regionRead entry => exact .onFrame (by split <;> exact reply)
  | regionWrite entry flags base limit initiators => exact QueueEvent.regionWrite entry flags base limit initiators s
  | slotRead slot => exact .onFrame (by split <;> exact reply)
  | wakeOrder bank => exact QueueEvent.order s bank (.orderWake s)
  | retainOrder bank => exact QueueEvent.order s bank (.orderRetain s)
  | offOrder bank => exact QueueEvent.order s bank (.orderOff s)
  | retryOrder bank => exact QueueEvent.order s bank (.orderRetry s)
  | discardOrder bank => exact QueueEvent.order s bank (.orderDiscard s)
  | clearOrder bank => exact QueueEvent.order s bank (.orderClear s)
  | unlostOrder bank => exact QueueEvent.order s bank (.orderUnlost s)
  | flush bank => exact QueueEvent.flush bank s
  | flushAll => exact .onFrame (next (.replied (.ended (.flushEvery s) ..) ..))
  | faultPeek => exact .onFrame (by split <;> exact reply)
  | faultPop => exact .onFrame (by split <;> exact kept {})
  | faultPopRemoval shifted => exact QueueEvent.faultPopRemoval shifted s
  | clearUnlogged bank =>
    refine .onFrame ?_
    split
    · exact reply
    next b _ => exact next (.replied (.ended (.clearUnlogged s b) ..) ..)
  | millisecondCounterStep => exact kept (.milliStep s)

/-! ## Every command keeps the order -/

/-- A FREE port has no ISSUED entry. -/
theorem issuedExact_free {s : State} (hc : s.issuedCount = 0) (hp : s.port.inFlight = none) : s.IssuedExact :=
  ⟨by rw [hc, hp]; rfl, fun op h => absurd (hp.symm.trans h) nofun⟩

/-- While another presenter's operation is in flight no entry is ISSUED. -/
theorem none_issued {s : State} (h : s.IssuedExact) {op : InFlight} (ho : s.port.inFlight = some op)
    (hp : op.presenter ≠ .entry) : s.issuedCount = 0 := by
  rw [h.count, ho]
  simp [hp]

/-- A request behind another of its initiator waits for its order; any other is evaluated (R56). -/
theorem takeRequest_orderly {s : State} (h : Orderly s) (r : Request) : Orderly (s.takeRequest r) := by
  obtain ⟨entries, issued⟩ := h
  have entered : ∀ {t : State} {st : EntryStatus}, t.queue = s.queue ++ [⟨r, st⟩] → t.port = s.port →
      (if s.unanswered r.initiator = 0 then st ≠ .waiting .order ∧ st ≠ .failed else st = .waiting .order) →
      (st == .issued) = false → Orderly t := by
    intro t st hq hp hst hi
    refine ⟨entries.entered hq hst, issued.congr ?_ (by rw [hp])⟩
    rw [IssuedKept, State.issuedCount, hq, List.countP_append, List.countP_singleton, if_neg (by rw [hi]; nofun)]
    rfl
  unfold State.takeRequest
  split
  next h0 =>
    cases hv : (s.judge r).entryStatus with
    | some st =>
      obtain ⟨hst, hi⟩ := State.judge_status hv
      rw [State.firstEvaluation_entered s r st hv]
      have hq := (State.perform_enters (s := s.appendEntry r st) (r := r) hv).1
      exact entered hq (PortKept.perform (s.appendEntry r st) r _).port (by rwa [if_pos h0]) hi
    | none =>
      rw [State.firstEvaluation_answered s r hv]
      exact Orderly.congr ⟨entries, issued⟩ (State.perform_answers hv).1 (by rw [(PortKept.perform s r _).port])
  next h0 => exact entered rfl rfl (by rw [if_neg h0]) rfl

/-- The completion of a word operation takes the ISSUED entry out of the queue, where there is one (R66). -/
theorem routeWord_cases (s : State) (report : Report) (data : Vector Word 8) :
    ((s.routeWord report data).queue = s.queue ∧ s.issuedCount = 0) ∨
      ∃ k e, s.queue[k]? = some e ∧ e.status = .issued ∧ (s.routeWord report data).queue = s.queue.eraseIdx k := by
  unfold State.routeWord
  split
  next h =>
    refine .inl ⟨rfl, ?_⟩
    rw [State.issuedCount, List.countP_eq_zero]
    exact fun e he => by simpa using List.findIdx?_eq_none_iff.mp h e he
  next k h =>
    obtain ⟨hk, hi, -⟩ := List.findIdx?_eq_some_iff_getElem.mp h
    have he := List.getElem?_eq_getElem hk
    split
    next hn => exact absurd (he.symm.trans hn) nofun
    next e he' =>
      cases he.symm.trans he'
      exact .inr ⟨k, _, he, by simpa using hi, by cases report <;> rfl⟩

theorem routeZero_queue (s : State) (report : Report) : (s.routeZero report).queue = s.queue := by
  have advance : ∀ (u : State) (b : BankNo), (u.advanceClear b).queue = u.queue := by
    intro u b
    unfold State.advanceClear
    split <;> rfl
  unfold State.routeZero
  split
  · split
    · rfl
    · rw [advance]
      cases report with
      | ok => rfl
      | error => exact State.handFault_queue s _
  · rfl

/-- What a completion leaves: the port FREE, no entry ISSUED, and entries in order but where the walk that follows the end of a
word operation puts them in order (R60, R126). -/
theorem complete_orderly {s : State} (h : Orderly s) {op : InFlight} (ho : s.port.inFlight = some op) (report : Report)
    (data : Vector Word 8) (pre : State) :
    Orderly (((s.endOperation op.bank).route op report data).finishCompletion pre op.kind.isWord) := by
  obtain ⟨entries, issued⟩ := h
  have free : ((s.endOperation op.bank).route op report data).port.inFlight = none := by
    rw [(route_frame _ op report data).port]
    rfl
  have other : ((s.endOperation op.bank).route op report data).queue = s.queue → s.issuedCount = 0 →
      Orderly (((s.endOperation op.bank).route op report data).finishCompletion pre op.kind.isWord) := by
    intro hq hc
    have whole := ((entries.to _).congr hq).whole le_rfl
    exact finishCompletion_orderly (whole.to 0) (issuedExact_free ((State.issuedCount_congr hq).trans hc) free) (.inl whole)
  cases hp : op.presenter with
  | entry =>
    have routed : (s.endOperation op.bank).route op report data = (s.endOperation op.bank).routeWord report data := by
      rw [State.route, hp]
    rw [routed] at free other ⊢
    rcases routeWord_cases (s.endOperation op.bank) report data with ⟨hq, hc⟩ | ⟨k, e, he, hi, hq⟩
    · exact other hq hc
    · have count := State.issuedCount_removed (s := s.endOperation op.bank) he hq
      have one : (s.endOperation op.bank).issuedCount = 1 := issued.count.trans (by rw [ho, Option.map_some, hp, if_pos rfl])
      rw [one, hi] at count
      refine finishCompletion_orderly ((entries.to 0).removed (Nat.zero_le k) hq)
        (issuedExact_free (Nat.succ.inj count) free) (.inr ?_)
      rw [issued.word op ho hp, Bool.true_or]
  | slot i =>
    refine other ?_ (none_issued issued ho (by rw [hp]; nofun))
    rw [State.route, hp]
    exact routeLine_queue _ i report
  | clearEngine =>
    refine other ?_ (none_issued issued ho (by rw [hp]; nofun))
    rw [State.route, hp]
    exact routeZero_queue _ report

/-- A timed-out operation's presenter has been told: no entry is ISSUED, and entries are in order but for the one that has
become FAILED (R132). -/
theorem tellTimeout_orderly {s : State} (h : Orderly s) {op : InFlight} (ho : s.port.inFlight = some op) :
    ((s.endOperation op.bank).tellTimeout op).InOrderTo 0 ∧ ((s.endOperation op.bank).tellTimeout op).issuedCount = 0 ∧
      (((s.endOperation op.bank).tellTimeout op).EntriesInOrder ∨ op.kind.isWord = true) := by
  obtain ⟨entries, issued⟩ := h
  have other : ((s.endOperation op.bank).tellTimeout op).queue = s.queue → op.presenter ≠ .entry →
      ((s.endOperation op.bank).tellTimeout op).InOrderTo 0 ∧ ((s.endOperation op.bank).tellTimeout op).issuedCount = 0 ∧
        (((s.endOperation op.bank).tellTimeout op).EntriesInOrder ∨ op.kind.isWord = true) := by
    intro hq hne
    have whole := ((entries.to _).congr hq).whole le_rfl
    exact ⟨whole.to 0, (State.issuedCount_congr hq).trans (none_issued issued ho hne), .inl whole⟩
  cases hp : op.presenter with
  | entry =>
    have hq : ((s.endOperation op.bank).tellTimeout op).queue =
        s.queue.map fun e => if e.status == .issued then { e with status := .failed } else e := by
      rw [State.tellTimeout, hp]
      rfl
    refine ⟨(entries.to 0).failed hq fun e => ?_, ?_, .inr (issued.word op ho hp)⟩
    · split
      · exact .inr rfl
      · exact .inl rfl
    · rw [State.issuedCount, hq, List.countP_map, List.countP_eq_zero]
      intro e _
      by_cases hi : e.status = .issued <;> simp [hi]
  | slot i =>
    refine other ?_ (by rw [hp]; nofun)
    rw [State.tellTimeout, hp]
    dsimp only
    split <;> rfl
  | clearEngine =>
    refine other ?_ (by rw [hp]; nofun)
    rw [State.tellTimeout, hp]
    rfl

/-- The telling of a timeout writes the queue and the store alone (R132). -/
theorem tellTimeout_eq (s : State) (op : InFlight) :
    s.tellTimeout op = { s with queue := (s.tellTimeout op).queue, store := (s.tellTimeout op).store } := by
  unfold State.tellTimeout
  split
  · rfl
  · split <;> rfl
  · rfl

theorem endOperation_bankState (s : State) (b c : BankNo) : (s.endOperation b).bankState c = s.bankState c := by
  by_cases e : b = c
  · subst e
    rw [State.bankState, State.endOperation, State.setBank_same]
    rfl
  · rw [State.bankState, State.endOperation, State.setBank_other _ _ e]
    rfl

theorem timeOut_orderly {s : State} (h : Orderly s) {op : InFlight} (ho : s.port.inFlight = some op) :
    Orderly ((s.timeOut op).finish s op.kind.isWord) := by
  obtain ⟨order, count, whole⟩ := tellTimeout_orderly h ho
  have queue : (s.timeOut op).queue = (((s.endOperation op.bank).tellTimeout op).makeStuck op.bank).queue := by
    simp [State.timeOut]
  have state : ((s.endOperation op.bank).tellTimeout op).bankState op.bank = s.bankState op.bank := by
    rw [State.bankState, tellTimeout_eq]
    exact endOperation_bankState s op.bank op.bank
  have walk := makeStuck_walk (pre := s) (u := s.timeOut op) state queue (by simp [State.timeOut])
  refine finish_orderly ((makeStuck_failed order).congr queue) (issuedExact_free ?_ ?_) ?_
  · rw [State.issuedCount_congr queue, makeStuck_issued, count]
  · rw [State.timeOut, State.handFault_port, State.makeStuck_port, tellTimeout_eq]
    rfl
  · rw [Bool.or_eq_true]
    rcases walk with hq | hr
    · exact whole.imp (fun w => ((w.to _).congr hq).whole le_rfl) .inl
    · exact .inr (.inr hr)

theorem failBank_orderly {s u : State} (h : Orderly u) {b : BankNo} (kind : FaultKind) (hb : u.bankState b = s.bankState b) :
    Orderly ((u.failBank b kind).finish s false) := by
  obtain ⟨queue, banks⟩ := failBank_queue_banks u b kind
  have walk := makeStuck_walk (pre := s) hb queue banks
  refine finish_orderly ((makeStuck_failed (h.entries.to 0)).congr queue) (h.issued.congr ?_ (by simp)) ?_
  · exact (State.issuedCount_congr queue).trans (makeStuck_issued u b)
  · rw [Bool.false_or]
    exact walk.imp (fun hq => ((h.entries.to _).congr hq).whole le_rfl) id

theorem QueueEvent.orderly {s t : State} (h : QueueEvent s t) (hs : Orderly s) : Orderly t := by
  induction h with
  | kept h => exact hs.congr h.queue h.inFlight
  | ended h pre released =>
    have hu := hs.congr h.queue h.inFlight
    exact finish_orderly (hu.entries.to 0) hu.issued (.inl hu.entries)
  | replied h n status results ih => exact ih.congr rfl rfl
  | taken r h =>
    have hu := takeRequest_orderly hs r
    exact finish_orderly (hu.entries.to 0) hu.issued (.inl hu.entries)
  | completed op report data h => exact complete_orderly hs h report data s
  | timedOut op h => exact timeOut_orderly hs h
  | failed b kind h hb => exact failBank_orderly (hs.congr h.queue h.inFlight) kind hb
  | emptied hq hp =>
    exact ⟨fun k e he => by simp [hq] at he, issuedExact_free (by rw [State.issuedCount, hq]; rfl) hp⟩

/-! ## The timebase -/

/-- A CLK cycle leaves the queue, and of the operation in flight it moves the access timer alone (R196). -/
theorem clockCycle_queue (s : State) : s.clockCycle.queue = s.queue ∧ (s.clockCycle.port.inFlight = s.port.inFlight ∨
    ∃ op, s.port.inFlight = some op ∧
      s.clockCycle.port.inFlight = some { op with accessTimer := op.accessTimer.count }) := by
  have settle : ∀ u : State, QueueKept u u.tickSettle := fun u => by unfold State.tickSettle; split <;> exact {}
  have idle : ∀ u : State, QueueKept u u.tickIdle := fun u => by unfold State.tickIdle; split <;> exact {}
  have milli : ∀ u : State, QueueKept u u.tickMilli := fun u => by
    unfold State.tickMilli
    split
    · exact {}
    · exact .trans (t := { u with clock := { u.clock with milli := 0 } }) {} (.milliStep _)
  unfold State.clockCycle
  split
  · exact ⟨rfl, .inl rfl⟩
  · generalize hs : ({ s with clock := { s.clock with divider := 0 } } : State) = u
    obtain ⟨hq, hp⟩ : QueueKept u.tickAccess u.tick := (settle _).trans ((idle _).trans (milli _))
    subst hs
    rw [hq, hp]
    unfold State.tickAccess
    split
    next op ho => exact ⟨rfl, .inr ⟨op, ho, rfl⟩⟩
    · exact ⟨rfl, .inl rfl⟩

theorem clockCycle_orderly {s : State} (h : Orderly s) : Orderly s.clockCycle := by
  obtain ⟨hq, hp | ⟨op, ho, hp⟩⟩ := clockCycle_queue s
  · exact h.congr hq hp
  · refine ⟨((h.entries.to _).congr hq).whole le_rfl, ?_, fun op' ho' hpr => ?_⟩
    · rw [State.issuedCount_congr hq, h.issued.count, ho, hp]
      rfl
    · cases ho'.symm.trans hp
      exact h.issued.word op ho hpr

/-- A step is a command carried out on the state with some queue of waiting commands, or one CLK cycle. -/
theorem step_queueEvent {s t : State} (h : step s = .next t) :
    (∃ rest, QueueEvent { s with pending := rest } t) ∨ t = s.clockCycle := by
  unfold step at h
  split at h
  · unfold idle at h
    split at h
    · exact .inl ⟨s.pending, exec_queueEvent h⟩
    · injection h with h
      exact .inr h.symm
  next rest _ => exact .inl ⟨rest, exec_queueEvent h⟩

/-- Settles O11: a command leaves the entries in order, or has a release walk, which puts them in order. -/
theorem stepKeepsEntriesInTheirOrder : Obligations.StepKeepsEntriesInTheirOrder := by
  rintro s t ⟨entries, issued⟩ h
  have hs : Orderly s := ⟨entries, (State.issuedInFlight_iff s).mp issued⟩
  have ht : Orderly t := by
    rcases step_queueEvent h with ⟨rest, event⟩ | rfl
    · exact event.orderly (hs.congr rfl rfl)
    · exact clockCycle_orderly hs
  exact ⟨ht.entries, (State.issuedInFlight_iff t).mpr ht.issued⟩

/-! ## The bounds of the Hold Queue (R58) -/

/-- No request has been taken: those that wait waited before. -/
theorem State.QueueBounded.of_sublist {s t : State} (h : s.QueueBounded)
    (hs : (t.queue.map Entry.request).Sublist (s.queue.map Entry.request)) : t.QueueBounded := by
  have count : ∀ (u : State) (i : Initiator), u.unanswered i =
      (u.queue.map Entry.request).countP fun r => r.initiator == i := by
    intro u i
    rw [List.countP_map]
    rfl
  obtain ⟨length, each⟩ := h
  refine ⟨?_, fun i => ?_⟩
  · have := hs.length_le
    rw [List.length_map, List.length_map] at this
    omega
  · have := hs.countP_le (p := fun r => r.initiator == i)
    rw [← count, ← count] at this
    exact this.trans (each i)

/-- The requests that wait after a taking: those before, and the one taken where its evaluation has not answered it. -/
theorem takeRequest_requests (s : State) (r : Request) :
    ((s.takeRequest r).queue.map Entry.request).Sublist (s.queue.map Entry.request ++ [r]) := by
  have entered : ∀ (t : State) (st : EntryStatus), t.queue = s.queue ++ [⟨r, st⟩] →
      (t.queue.map Entry.request).Sublist (s.queue.map Entry.request ++ [r]) := fun t st hq => by
    rw [hq, List.map_append, List.map_singleton]
  unfold State.takeRequest
  split
  · cases hv : (s.judge r).entryStatus with
    | some st =>
      rw [State.firstEvaluation_entered s r st hv]
      exact entered _ st (State.perform_enters (s := s.appendEntry r st) hv).1
    | none =>
      rw [State.firstEvaluation_answered s r hv, (State.perform_answers hv).1]
      exact List.sublist_append_left _ _
  · exact entered _ _ rfl

/-- A request is taken only within both bounds (R58). -/
theorem takeRequest_bounded {s : State} (h : s.QueueBounded) {r : Request} (hm : s.mayTake r = true) :
    (s.takeRequest r).QueueBounded := by
  obtain ⟨-, room, few⟩ := mayTake_iff.mp hm
  obtain ⟨-, each⟩ := h
  have within : (s.appendEntry r .ready).QueueBounded := by
    refine ⟨?_, fun i => ?_⟩
    · rw [State.appendEntry_queue, List.length_append, List.length_singleton]
      exact room
    · have := each i
      simp only [State.unanswered, State.appendEntry_queue, List.countP_append, List.countP_singleton] at few this ⊢
      by_cases e : r.initiator = i
      · subst e
        rw [beq_self_eq_true, if_pos rfl]
        exact few
      · rw [beq_eq_false_iff_ne.mpr e, if_neg nofun]
        exact this
  refine within.of_sublist ?_
  rw [State.appendEntry_queue, List.map_append, List.map_singleton]
  exact takeRequest_requests s r

theorem makeStuck_requests (s : State) (b : BankNo) :
    (s.makeStuck b).queue.map Entry.request = s.queue.map Entry.request := by
  rcases makeStuck_cases s b with e | ⟨-, -, hq⟩
  · rw [e]
  · rw [hq, List.map_map]
    refine List.map_congr_left fun e _ => ?_
    dsimp only [Function.comp]
    split <;> rfl

theorem tellTimeout_requests (s : State) (op : InFlight) :
    (s.tellTimeout op).queue.map Entry.request = s.queue.map Entry.request := by
  unfold State.tellTimeout
  split
  · rw [List.map_map]
    refine List.map_congr_left fun e _ => ?_
    dsimp only [Function.comp]
    split <;> rfl
  · split <;> rfl
  · rfl

theorem route_requests (s : State) (op : InFlight) (report : Report) (data : Vector Word 8) :
    ((s.route op report data).queue.map Entry.request).Sublist (s.queue.map Entry.request) := by
  unfold State.route
  split
  · rcases routeWord_cases s report data with ⟨hq, -⟩ | ⟨k, e, -, -, hq⟩
    · rw [hq]
    · rw [hq]
      exact (List.eraseIdx_sublist _ _).map _
  · rw [routeLine_queue]
  · rw [routeZero_queue]

theorem QueueEvent.bounded {s t : State} (h : QueueEvent s t) (hs : s.QueueBounded) : t.QueueBounded := by
  have ended : ∀ {u : State} (pre : State) (released : Bool), u.QueueBounded → (u.finish pre released).QueueBounded :=
    fun pre released hu => hu.of_sublist (finish_eventEnd _ pre released).requests
  have requests : ∀ {u : State}, u.queue.map Entry.request = s.queue.map Entry.request → u.QueueBounded := fun hq =>
    hs.of_sublist (by rw [hq])
  induction h with
  | kept h => exact requests (by rw [h.queue])
  | ended h pre released => exact ended pre released (requests (by rw [h.queue]))
  | replied h n status results ih => exact ih.of_sublist (List.Sublist.refl _)
  | taken r h => exact ended s false (takeRequest_bounded hs h)
  | completed op report data h =>
    have routed := route_requests (s.endOperation op.bank) op report data
    exact (hs.of_sublist routed).of_sublist (finishCompletion_eventEnd _ s op.kind.isWord).requests
  | timedOut op h =>
    refine ended s _ (requests ?_)
    rw [State.timeOut, State.handFault_queue, makeStuck_requests, tellTimeout_requests]
    rfl
  | failed b kind h hb =>
    refine ended s _ (requests ?_)
    rw [(failBank_queue_banks _ b kind).1, makeStuck_requests, h.queue]
  | emptied hq hp => exact hs.of_sublist (by rw [hq]; exact List.nil_sublist _)

/-- Settles O10: a request is taken only within the bounds, and nothing else adds an entry. -/
theorem stepKeepsTheQueueBounded : Obligations.StepKeepsTheQueueBounded := by
  intro s t hs h
  rcases step_queueEvent h with ⟨rest, event⟩ | rfl
  · exact event.bounded hs
  · exact hs.of_sublist (by rw [(clockCycle_queue s).1])

end Sys2Proof.Machine

/-! The end of a word operation at its completion (R66, R126 to R128). -/

namespace Sys2Proof.Machine

/-- The completion of the operation in flight ends it and is routed to its presenter (R126). -/
theorem exec_completion {s : State} {op : InFlight} (hf : s.port.inFlight = some op) (report : Report)
    (data : Vector Word 8) : exec (.completion op.number report data) s =
      .next (((s.endOperation op.bank).route op report data).finishCompletion s op.kind.isWord) := by
  show execCompletion op.number report data s = _
  rw [execCompletion, hf]
  dsimp only
  rw [if_pos rfl]

section
variable {s : State} {k : Nat} {e : Entry} (hk : s.queue.findIdx? (fun e => e.status == .issued) = some k)
  (he : s.queue[k]? = some e)
include hk he

theorem routeWord_error (data : Vector Word 8) : s.routeWord .error data = s.answerEntry k e .eMemory [] := by
  simp only [State.routeWord, hk, he]

theorem routeWord_read {count : Nat} (ha : e.request.access = .read count) (data : Vector Word 8) :
    s.routeWord .ok data = s.answerEntry k e .ok
      ((List.range count).map (overlaidWord (s.store.bytesOfLine e.request.line) e.request data)) := by
  simp [State.routeWord, hk, he, Request.isWrite, overlaidWords, Request.count, ha]

theorem routeWord_write {words : List WordWrite} (ha : e.request.access = .write words) (data : Vector Word 8) :
    s.routeWord .ok data = s.answerEntry k e .ok [] := by
  simp [State.routeWord, hk, he, Request.isWrite, ha]

end

/-- The answer of a word operation's entry, at the end of the event of its completion. -/
def WordAnswered (s t : State) (op : InFlight) (e : Entry) (code : Code) (words : List Word) : Prop :=
  s.out.responses ++ [⟨e.request.initiator, e.request.tag, code, words⟩] <+: t.out.responses ∧
    t.faults = s.faults ∧ t.mode = s.mode ∧ t.store.drainedLines = s.store.drainedLines ∧
    t.port.lateCount = s.port.lateCount ∧ s.OperationEnded t ∧ t.IdleTimerAfresh op.bank

/-- The answer of the entry is the own effect of the completion; what follows keeps it (R66, R126, R82). -/
theorem wordCompletion_answered (s : State) (op : InFlight) (k : Nat) (e : Entry) (code : Code) (words : List Word)
    (released : Bool) :
    WordAnswered s (((s.endOperation op.bank).answerEntry k e code words).finishCompletion s released) op e code words := by
  have ended := finishCompletion_eventEnd ((s.endOperation op.bank).answerEntry k e code words) s released
  have stopped : ((s.endOperation op.bank).answerEntry k e code words).banks[op.bank].idleTimer = .stopped := by
    rw [State.answerEntry_banks, State.endOperation, State.setBank_same]
  have operation : s.OperationEnded (((s.endOperation op.bank).answerEntry k e code words).finishCompletion s released) :=
    finishCompletion_ended (by rw [State.answerEntry_port]; rfl) (by rw [State.answerEntry_port]; rfl) s released
  have idle := finishCompletion_idle stopped s released
  generalize ((s.endOperation op.bank).answerEntry k e code words).finishCompletion s released = t at *
  exact ⟨ended.responses, ended.faults, ended.mode, ended.drainedLines, ended.lateCount, operation, idle⟩

/-- Settles O31, by the report and the access of the entry. -/
theorem wordCompletionAnswersItsEntry : Obligations.WordCompletionAnswersItsEntry := by
  intro s op k e report data hf hp hk he
  refine ⟨_, exec_completion hf report data, ?_⟩
  have answered := fun code words => wordCompletion_answered s op k e code words op.kind.isWord
  have routed : (s.endOperation op.bank).route op report data = (s.endOperation op.bank).routeWord report data := by
    rw [State.route, hp]
  rw [routed]
  cases report with
  | error =>
    rw [routeWord_error (s := s.endOperation op.bank) hk he]
    exact answered .eMemory []
  | ok =>
    cases ha : e.request.access with
    | read count =>
      rw [routeWord_read (s := s.endOperation op.bank) hk he ha]
      exact answered .ok _
    | write words =>
      rw [routeWord_write (s := s.endOperation op.bank) hk he ha]
      exact answered .ok []

end Sys2Proof.Machine

/-! Banks that fail: a settle timeout, an unsolicited change and an access timeout make a fitted bank STUCK (R75, R76, R86,
R131), and the walk of the event answers its FAILED entries at head (R67 to R69). -/

namespace Sys2Proof.Machine

/-! ## A FAILED entry at head is answered in the walk -/

/-- The entry at place `j` is that of a request, FAILED and at head. -/
structure FailedAt (s : State) (j : Nat) (r : Request) : Prop where
  entry : s.queue[j]? = some ⟨r, .failed⟩
  head : s.atHead j ⟨r, .failed⟩ = true

namespace FailedAt

variable {s t : State} {j k : Nat} {r : Request}

theorem congr (h : FailedAt s j r) (hq : t.queue = s.queue) : FailedAt t j r :=
  ⟨by rw [hq]; exact h.entry, by rw [State.atHead_congr (congrArg _ hq) j rfl]; exact h.head⟩

/-- An entry at head becomes FAILED with others. -/
theorem of_map {f : Entry → Entry} {e : Entry} (hq : t.queue = s.queue.map f) (hr : ∀ e, (f e).request = e.request)
    (he : s.queue[j]? = some e) (hh : s.atHead j e = true) (hf : (f e).status = .failed) : FailedAt t j e.request := by
  have failed : f e = ⟨e.request, .failed⟩ := by rw [← hr e, ← hf]
  have requests : t.queue.map Entry.request = s.queue.map Entry.request := by
    rw [hq, List.map_map]
    exact List.map_congr_left fun e _ => hr e
  refine ⟨by rw [hq, List.getElem?_map, he, Option.map_some, failed], ?_⟩
  rw [State.atHead_congr requests j (e := e) (e' := ⟨e.request, .failed⟩) rfl]
  exact hh

theorem setStatus (h : FailedAt s j r) (hk : k ≠ j) (st : EntryStatus) : FailedAt (s.setStatus k st) j r := by
  refine ⟨?_, ?_⟩
  · rw [State.setStatus_queue, List.getElem?_modify, h.entry]
    simp [hk]
  · rw [State.atHead_congr (setStatus_requests s k st) j rfl]
    exact h.head

/-- Another entry leaves: one before it moves it up a place. -/
theorem removed (h : FailedAt s j r) (hk : k ≠ j) (hq : t.queue = s.queue.eraseIdx k) :
    FailedAt t (if k < j then j - 1 else j) r := by
  split
  next hlt =>
    obtain ⟨i, rfl⟩ : ∃ i, j = i + 1 := ⟨j - 1, by omega⟩
    refine ⟨?_, (State.atHead_removed hq).2 (by omega) h.head⟩
    rw [hq, List.getElem?_eraseIdx, if_neg (by omega)]
    exact h.entry
  next hle =>
    refine ⟨?_, (State.atHead_removed hq).1 (by omega) h.head⟩
    rw [hq, List.getElem?_eraseIdx, if_pos (by omega)]
    exact h.entry

/-- Another entry is re-evaluated. -/
theorem reevaluate (h : FailedAt s j r) (hk : k ≠ j) (e : Entry) : ∃ j', FailedAt (s.reevaluate k e) j' r := by
  unfold State.reevaluate
  dsimp only
  split
  next st hv => exact ⟨j, (h.setStatus hk st).congr (State.perform_enters hv).1⟩
  next hv => exact ⟨_, h.removed hk (State.perform_answers (s := s.removeEntry k) hv).1⟩

/-- The re-evaluation at a freeze reaches READY entries alone. -/
theorem freezeReevaluation (h : FailedAt s j r) (pre : State) :
    ∃ j', FailedAt (State.freezeReevaluation pre s) j' r := by
  refine sweep_relates (R := fun s t => (∃ j, FailedAt s j r) → ∃ j, FailedAt t j r) (fun _ => id)
    (fun h h' => h' ∘ h) (fun u k e _ hv => absurd hv (freezeRule_ne_fail pre s u k e)) ?_ _ _ s ⟨j, h⟩
  rintro u k e he hv ⟨i, hi⟩
  refine hi.reevaluate ?_ e
  rintro rfl
  cases he.symm.trans hi.entry
  obtain ⟨hr, -⟩ := (freezeRule_evaluate_iff pre s u k _).mp hv
  cases hr

end FailedAt

/-- A request has been answered E-BANK since `n` responses had left. -/
def AnsweredSince (n : Nat) (r : Request) (t : State) : Prop :=
  ⟨r.initiator, r.tag, .eBank, []⟩ ∈ t.out.responses.drop n

theorem AnsweredSince.later {n : Nat} {r : Request} {s t : State} (h : AnsweredSince n r s)
    (hp : s.out.responses <+: t.out.responses) : AnsweredSince n r t :=
  (hp.drop n).subset h

theorem reevaluate_responses (s : State) (k : Nat) (e : Entry) :
    s.out.responses.length ≤ (s.reevaluate k e).out.responses.length :=
  (eventEnd_steps (s.reevaluate_steps k e)).responses.length_le

/-- A walk that has not reached a FAILED entry at head yet answers it (R61, R69). -/
theorem walk_answers {n : Nat} {r : Request} (fuel k j : Nat) (s : State) (h : FailedAt s j r) (hk : k ≤ j)
    (hf : s.queue.length ≤ k + fuel) (hn : n ≤ s.out.responses.length) :
    AnsweredSince n r (sweep State.walkRule fuel k s) := by
  induction fuel generalizing k j s with
  | zero =>
    obtain ⟨hj, -⟩ := List.getElem?_eq_some_iff.mp h.entry
    omega
  | succ fuel ih =>
    obtain ⟨hj, -⟩ := List.getElem?_eq_some_iff.mp h.entry
    obtain ⟨e, he⟩ : ∃ e, s.queue[k]? = some e := ⟨_, List.getElem?_eq_getElem (by omega)⟩
    rcases Nat.eq_or_lt_of_le hk with rfl | hlt
    · cases he.symm.trans h.entry
      rw [sweep_failed he ((walkRule_fail_iff s k _).mpr ⟨h.head, rfl⟩)]
      refine AnsweredSince.later (s := s.answerEntry k ⟨r, .failed⟩ .eBank []) ?_
        (eventEnd_steps (sweep_steps ..)).responses
      show _ ∈ (s.out.responses ++ [_]).drop n
      rw [List.drop_append_of_le_length hn]
      exact List.mem_append_right _ (List.mem_singleton_self _)
    · have left : ∀ t : State, t.queue = s.queue.eraseIdx k → s.out.responses.length ≤ t.out.responses.length →
          AnsweredSince n r (sweep State.walkRule fuel k t) := by
        intro t hq ho
        have moved := h.removed hlt.ne hq
        rw [if_pos hlt] at moved
        refine ih k (j - 1) t moved (by omega) ?_ (by omega)
        rw [hq, List.length_eraseIdx_of_lt (by omega)]
        omega
      cases hv : State.walkRule s k e with
      | pass =>
        rw [sweep_passed he hv]
        exact ih (k + 1) j s h hlt (by omega) hn
      | fail =>
        rw [sweep_failed he hv]
        exact left _ rfl (by simp [State.answerEntry])
      | evaluate =>
        have grown := reevaluate_responses s k e
        cases hd : (s.judge e.request).entryStatus with
        | none =>
          rw [sweep_answered he hv hd]
          simp only [State.reevaluate, hd] at grown
          exact left _ (State.perform_answers (s := s.removeEntry k) hd).1 grown
        | some st =>
          rw [sweep_kept he hv hd]
          simp only [State.reevaluate, hd] at grown
          have hq := (State.perform_enters (s := s.setStatus k st) (r := e.request) hd).1
          refine ih (k + 1) j _ ((h.setStatus hlt.ne st).congr hq) hlt ?_ (by omega)
          rw [hq, State.setStatus_queue, List.length_modify]
          omega

/-- What follows the first of an event's walks answers more, and withdraws nothing. -/
theorem releaseWalks_responses (n : Nat) (s : State) :
    s.releaseWalk.out.responses <+: (State.releaseWalks (n + 1) s).out.responses := by
  rw [State.releaseWalks]
  split
  · exact (eventEnd_steps (State.releaseWalks_steps n _)).responses
  · exact List.prefix_rfl

/-- At an event with a release walk every FAILED entry at head is answered (R60, R69). -/
theorem finish_answers {u pre : State} {released : Bool} {j : Nat} {r : Request} (h : FailedAt u j r)
    (hw : (released || State.isRelease pre u) = true) :
    AnsweredSince u.out.responses.length r (u.finish pre released) := by
  obtain ⟨i, hi⟩ := h.freezeReevaluation pre
  have grown : u.out.responses <+: (State.freezeReevaluation pre u).out.responses :=
    (eventEnd_steps (sweep_steps ..)).responses
  have walked : AnsweredSince u.out.responses.length r (State.freezeReevaluation pre u).releaseWalk :=
    walk_answers _ 0 i _ hi (Nat.zero_le i) (by omega) grown.length_le
  have queue : AnsweredSince u.out.responses.length r (State.runQueue pre released u) := by
    simp only [State.runQueue, hw, Bool.true_or, if_true]
    exact walked.later (releaseWalks_responses 8 _)
  exact queue.later (eventEnd_steps ((State.takeAgeExpiries_steps pre _).trans ((State.pressureChoice_steps _).trans
    ((State.grant_steps _).trans (State.afterGrant_steps _ pre))))).responses

/-- The entries of a bank that becomes STUCK, but an ISSUED one, are FAILED; those at head are answered (R67). -/
theorem makeStuck_failedAt {s : State} {b : BankNo} (hf : s.fitted b = true) (hs : (s.bankState b).isStuck = false)
    {k : Nat} {e : Entry} (he : s.queue[k]? = some e) (hh : s.atHead k e = true) (hb : e.request.bank = b)
    (hi : e.status ≠ .issued) : FailedAt (s.makeStuck b) k e.request := by
  rcases makeStuck_cases s b with same | ⟨-, -, hq⟩
  · have record := State.makeStuck_bank s b hf hs
    rw [same] at record
    rw [State.bankState, record] at hs
    cases hs
  · refine .of_map hq (fun e => ?_) he hh ?_
    · split <;> rfl
    · simp [hb, hi]

theorem FailedAt.makeStuck {s : State} {j : Nat} {r : Request} (h : FailedAt s j r) (b : BankNo) :
    FailedAt (s.makeStuck b) j r := by
  rcases makeStuck_cases s b with same | ⟨-, -, hq⟩
  · rwa [same]
  · refine .of_map hq (fun e => ?_) h.entry h.head ?_
    · split <;> rfl
    · split <;> rfl

/-! ## A bank that the end of an event leaves -/

/-- The end of an event leaves a STUCK bank, and stops its timers (R82, R84, R86). -/
theorem finish_stuckBank {u : State} {b : BankNo} (h : (u.bankState b).isStuck = true) (pre : State) (released : Bool) :
    (u.finish pre released).banks[b] = { u.banks[b] with idleTimer := .stopped, offTimer := .stopped } := by
  have stays : ∀ st : BankState, st.isStuck = true → st.stays = true ∧
      (st == .active) = false ∧ (st == .retain) = false := by
    intro st hst
    cases st with
    | stuck o => exact ⟨rfl, rfl, rfl⟩
    | _ => cases hst
  obtain ⟨hst, notActive, notRetain⟩ := stays _ h
  have granted : EventEnd u (u.untilGrant pre released).grant :=
    eventEnd_steps ((State.untilGrant_steps u pre released).trans (State.grant_steps _))
  have record := (granted.bank b).stays hst
  have state : (u.untilGrant pre released).grant.bankState b = u.bankState b := by
    rw [State.bankState, record]
    rfl
  rw [State.finish, afterGrant_bank, refreshedRecord, State.idleConditions, State.offConditions, state, notActive,
    notRetain, record]
  simp [State.followTimer]

/-- What the end of an event keeps of a bank without power control (R72, R192). -/
structure PowerStays (k k' : BankRecord) : Prop where
  state : k'.state = k.state
  request : k'.request = k.request
  lost : k'.lost = k.lost

/-- An unfitted bank takes no demand (R72). -/
theorem unfitted_step {s t : State} (h : EndStep s t) {b : BankNo} (hf : s.fitted b = false) :
    PowerStays s.banks[b] t.banks[b] := by
  have changed : ∀ (c : BankNo) (f : BankRecord → BankRecord), (∀ k, PowerStays k (f k)) →
      PowerStays s.banks[b] (s.setBank c f).banks[b] := by
    intro c f hk
    by_cases e : c = b
    · subst e
      rw [State.setBank_same]
      exact hk _
    · rw [State.setBank_other s f e]
      exact ⟨rfl, rfl, rfl⟩
  cases h with
  | wake c o hc _ =>
    rw [State.wake_other s o (by rintro rfl; rw [hf] at hc; cases hc)]
    exact ⟨rfl, rfl, rfl⟩
  | pendWake c o _ => exact changed c _ fun _ => ⟨rfl, rfl, rfl⟩
  | timers c => exact changed c _ fun _ => ⟨rfl, rfl, rfl⟩
  | grantEntry k _ _ hk =>
    rw [(grantEntry_end hk).banks]
    exact ⟨rfl, rfl, rfl⟩
  | grantDrain i cls _ _ hi =>
    rw [(grantDrain_end cls hi).banks]
    exact ⟨rfl, rfl, rfl⟩
  | _ => exact ⟨rfl, rfl, rfl⟩

theorem unfitted_steps {s t : State} (h : EndSteps s t) {b : BankNo} (hf : s.fitted b = false) :
    PowerStays s.banks[b] t.banks[b] := by
  induction h with
  | refl => exact ⟨rfl, rfl, rfl⟩
  | tail hst hs ih =>
    have unfitted : ∀ u : State, u.regs = s.regs → u.fitted b = false := fun u hu => by
      rw [State.fitted, hu]
      exact hf
    obtain ⟨h1, h2, h3⟩ := unfitted_step hs (unfitted _ (eventEnd_steps hst).regs)
    exact ⟨h1.trans ih.state, h2.trans ih.request, h3.trans ih.lost⟩

/-- A HELD line of a STUCK bank is not drained: only an ACTIVE bank's is (R107). -/
theorem heldLine_step {s t : State} (h : EndStep s t) {i : SlotNo} {l : Line} (hs : (s.bankState l.bank).isStuck = true)
    (hl : s.store.slots[i] = some l) (hh : l.state = .held) :
    ∃ l', t.store.slots[i] = some l' ∧ l'.state = .held ∧ l'.addr = l.addr := by
  have same : ∃ l', s.store.slots[i] = some l' ∧ l'.state = .held ∧ l'.addr = l.addr := ⟨l, hl, hh, rfl⟩
  cases h with
  | merge j r _ =>
    show ∃ l', (s.store.onLine j (LineStore.mergedLine r)).slots[i] = some l' ∧ _
    rw [LineStore.onLine_slot, hl]
    split
    · exact ⟨_, rfl, by simp [LineStore.mergedLine, hh], (mergedLine_kept r l).addr⟩
    · exact ⟨l, rfl, hh, rfl⟩
  | allocate j r hj =>
    have other : j ≠ i := by
      rintro rfl
      cases hl.symm.trans hj.2.1
    refine ⟨l, ?_, hh, rfl⟩
    show (s.store.allocate j r s.clock.msTime).slots[i] = some l
    rw [LineStore.allocate, updAt_ne _ _ other, hl]
  | wake b o _ _ =>
    rw [State.wake_store]
    exact same
  | grantEntry k _ _ _ =>
    rw [grantEntry_store]
    exact same
  | grantDrain j cls _ _ hj =>
    obtain ⟨m, hm, -, ha⟩ := isCandidate_some hj
    have other : j ≠ i := by
      rintro rfl
      cases hl.symm.trans hm
      rw [ha] at hs
      cases hs
    rcases grantDrain_store (s := s) (i := j) cls with e | e
    · rw [e]
      exact same
    · rw [e, LineStore.startDrain, LineStore.onLine_slot, if_neg other]
      exact ⟨l, by simp [hl], hh, rfl⟩
  | _ => exact same

theorem heldLine_steps {s t : State} (h : EndSteps s t) {i : SlotNo} {l : Line} (hs : (s.bankState l.bank).isStuck = true)
    (hl : s.store.slots[i] = some l) (hh : l.state = .held) :
    ∃ l', t.store.slots[i] = some l' ∧ l'.state = .held ∧ l'.addr = l.addr := by
  induction h with
  | refl => exact ⟨l, hl, hh, rfl⟩
  | @tail u v hst hstep ih =>
    obtain ⟨m, hm, hmh, ha⟩ := ih
    have stuck : (u.bankState m.bank).isStuck = true := by
      have bank : m.bank = l.bank := by simp only [Line.bank, ha]
      have stays : (s.bankState l.bank).stays = true := by
        cases hb : s.bankState l.bank with
        | stuck o => rfl
        | _ => rw [hb] at hs; cases hs
      rw [bank, State.bankState, ((eventEnd_steps hst).bank l.bank).stays stays]
      exact hs
    obtain ⟨l', hl', hh', ha'⟩ := heldLine_step hstep stuck hm hmh
    exact ⟨l', hl', hh', ha'.trans ha⟩

/-! ## A settle timeout and an unsolicited change -/

/-- What a failure of a bank leaves: the record of the STUCK bank, the fault, and the answers of its entries at head. -/
def BankFailed (s t : State) (b : BankNo) (record : BankRecord) (kind : FaultKind) : Prop :=
  t.banks[b] = { record with
      state := .stuck (s.bankState b).stuckOrigin, pendingWake := false, settleTimer := .stopped
      idleTimer := .stopped, offTimer := .stopped } ∧
    t.faults = (s.handFault ⟨kind, b, none, none, none, some (s.lineCount b)⟩).faults ∧
    ∀ (k : Nat) (e : Entry), s.queue[k]? = some e → s.atHead k e = true → e.request.bank = b → e.status ≠ .issued →
      AnsweredSince s.out.responses.length e.request t

/-- `u` is the state before the failure with the bank's status lines read. -/
theorem failBank_fails {s u : State} {b : BankNo} {record : BankRecord} (kind : FaultKind) (hf : s.fitted b = true)
    (hs : (s.bankState b).isStuck = false) (hr : u.banks[b] = record) (hst : record.state = s.bankState b)
    (hu : u = { s with banks := u.banks, pins := u.pins }) :
    BankFailed s ((u.failBank b kind).finish s false) b record kind := by
  have state : u.bankState b = s.bankState b := by rw [State.bankState, hr, hst]
  have fitted : u.fitted b = true := by rw [hu]; exact hf
  have live : (u.bankState b).isStuck = false := by rw [state, hs]
  obtain ⟨queue, banks⟩ := failBank_queue_banks u b kind
  have bank := State.makeStuck_bank u b fitted live
  have stuck : ((u.failBank b kind).bankState b).isStuck = true := by
    rw [State.bankState, banks, bank]
    rfl
  refine ⟨?_, ?_, fun k e he hh hb hi => ?_⟩
  · rw [finish_stuckBank stuck, banks, bank, state, hr]
  · rw [(finish_eventEnd _ s false).faults]
    have count : u.lineCount b = s.lineCount b := by rw [hu]; rfl
    rw [State.failBank, State.countedFault, count]
    exact handFault_faults_congr _ (by rw [State.makeStuck_faults, hu]) (by rw [State.makeStuck_clock, hu])
  · have same : u.queue = s.queue := by rw [hu]
    have head : u.atHead k e = true := by rw [State.atHead_congr (congrArg _ same) k rfl, hh]
    have failed := makeStuck_failedAt fitted live (by rw [same]; exact he) head hb hi
    have answered := finish_answers (pre := s) (released := false) (failed.congr queue)
      (by rw [Bool.false_or]; exact isRelease_of_stuck (b := b) hs stuck)
    have sent : (u.failBank b kind).out = s.out := by rw [State.failBank_out, hu]
    rwa [sent] at answered

/-- A change of the lines of a bank that is in no transition and not STUCK is judged as that of a settled bank (R76). -/
theorem lineChange_settled {s pre : State} {b : BankNo} (ht : (s.bankState b).inTransition = false)
    (hs : (s.bankState b).isStuck = false) : s.lineChange pre b = s.settledChange pre b := by
  unfold State.lineChange
  cases h : s.bankState b with
  | waking o => rw [h] at ht; cases ht
  | descending o => rw [h] at ht; cases ht
  | stuck o => rw [h] at hs; cases hs
  | _ => rfl

section
variable (s : State) (b : BankNo) (level : StatusLevel) (settled : Bool)

theorem drive_sampled : ((s.drive b level settled).sampleLines b).banks[b] =
    { s.banks[b] with reported := level, settled := settled } := by
  rw [State.sampleLines, State.setBank_same]
  simp [State.drive]

/-- A driven change is unsolicited where it changes the level or negates the settled indication (R76). -/
theorem drive_unsolicited : (s.drive b level settled).unsolicited b =
    (level != s.banks[b].reported || (s.banks[b].settled && !settled)) := by
  simp [State.unsolicited, State.drive]

end

/-- Settles O37: each failure makes its bank STUCK, and the walk of its event answers the entries. -/
theorem failuresMakeABankStuck : Obligations.FailuresMakeABankStuck := by
  intro s b level settled hf
  have change : ∀ (ht : (s.bankState b).inTransition = false) (hs : (s.bankState b).isStuck = false),
      exec (.statusLineChange b level settled) s = .next ((s.drive b level settled).settledChange s b) := by
    intro ht hs
    rw [← lineChange_settled (s := s.drive b level settled) ht hs]
    exact if_pos hf
  refine ⟨fun ht hr => ?_, fun ht hs hu => ?_, fun ht hs hl hset => ?_⟩
  · have live : (s.bankState b).isStuck = false := by
      cases h : s.bankState b with
      | stuck o => rw [h] at ht; cases ht
      | _ => rfl
    exact ⟨_, if_pos (by rw [ht, hr]; rfl), failBank_fails .settleTimeout hf live rfl rfl rfl⟩
  · refine ⟨_, change ht hs, ?_⟩
    have unsolicited : (s.drive b level settled).unsolicited b = true := by
      rw [drive_unsolicited]
      rcases hu with h | ⟨h1, h2⟩
      · rw [bne_iff_ne.mpr h, Bool.true_or]
      · rw [h1, h2]
        exact Bool.or_true _
    rw [State.settledChange, if_pos unsolicited]
    exact failBank_fails .unsolicitedChange hf hs (drive_sampled s b level settled) rfl rfl
  · refine ⟨_, change ht hs, ?_⟩
    have solicited : (s.drive b level settled).unsolicited b = false := by
      rw [drive_unsolicited, hl]
      cases h : s.banks[b].settled with
      | false => simp
      | true => simp [hset h]
    rw [State.settledChange, if_neg (by rw [solicited]; nofun)]
    refine ⟨rfl, fun c hc => ?_, ?_⟩
    · rw [State.sampleLines, State.setBank_other _ _ (Ne.symm hc)]
      rfl
    · rw [drive_sampled, hl]

/-! ## An access timeout -/

/-- The bank of a timed-out operation: a fitted one is STUCK, an unfitted one is left (R86, R131, R192). -/
theorem timeOut_bank (s : State) (op : InFlight) :
    (s.timeOut op).bankState op.bank =
      (if s.fitted op.bank then .stuck (s.bankState op.bank).stuckOrigin else s.bankState op.bank) ∧
      (s.timeOut op).banks[op.bank].request = s.banks[op.bank].request ∧
      (s.timeOut op).banks[op.bank].lost = s.banks[op.bank].lost := by
  have told : ((s.endOperation op.bank).tellTimeout op).banks[op.bank] =
      { s.banks[op.bank] with idleTimer := .stopped } := by
    rw [tellTimeout_eq, State.endOperation, State.setBank_same]
  have state : ((s.endOperation op.bank).tellTimeout op).bankState op.bank = s.bankState op.bank := by
    rw [State.bankState, told]
    rfl
  have fitted : ((s.endOperation op.bank).tellTimeout op).fitted op.bank = s.fitted op.bank := by
    rw [tellTimeout_eq]
    rfl
  rw [State.bankState, State.timeOut, State.handFault_banks]
  by_cases h : s.fitted op.bank = true ∧ (s.bankState op.bank).isStuck = false
  · obtain ⟨hf, hs⟩ := h
    rw [State.makeStuck_bank _ _ (by rw [fitted, hf]) (by rw [state, hs]), state, told, if_pos hf]
    exact ⟨rfl, rfl, rfl⟩
  · rw [not_and_or, Bool.not_eq_true, Bool.not_eq_false] at h
    rw [State.makeStuck_already _ _ (by rw [fitted, state]; exact h), told]
    refine ⟨?_, rfl, rfl⟩
    split
    next hf =>
      obtain ⟨o, ho⟩ : ∃ o, s.bankState op.bank = .stuck o := by
        have hs := h.resolve_left (by rw [hf]; nofun)
        cases hb : s.bankState op.bank with
        | stuck o => exact ⟨o, rfl⟩
        | _ => rw [hb] at hs; cases hs
      rw [ho]
      exact ho
    · rfl

theorem timeOut_bank_kept (s : State) (op : InFlight) (pre : State) (released : Bool) :
    PowerStays (s.timeOut op).banks[op.bank] ((s.timeOut op).finish pre released).banks[op.bank] := by
  cases hf : s.fitted op.bank with
  | false =>
    refine unfitted_steps (State.finish_steps _ _ _) ?_
    rw [State.timeOut, State.fitted, State.handFault_regs, State.makeStuck_regs, tellTimeout_eq]
    exact hf
  | true =>
    have stuck : ((s.timeOut op).bankState op.bank).isStuck = true := by
      rw [(timeOut_bank s op).1, if_pos hf]
      rfl
    rw [finish_stuckBank stuck]
    exact ⟨rfl, rfl, rfl⟩

/-- The slot of a timed-out drain write is HELD again, and not renewed (R115). -/
theorem timeOut_slot {s : State} {op : InFlight} {i : SlotNo} {l : Line} (hp : op.presenter = .slot i)
    (hl : s.store.slots[i] = some l) (hd : l.state = .draining) : (s.timeOut op).store.slots[i] =
      some { l with state := .held, drainContributors := 0, redirty := false } := by
  rw [State.timeOut, State.handFault_store, State.makeStuck_store, State.tellTimeout, hp]
  dsimp only
  rw [if_pos]
  · show (s.store.returnHeld i).slots[i] = _
    rw [LineStore.returnHeld, LineStore.onLine_slot, if_pos rfl, hl, Option.map_some]
  · show slotIs .draining s.store.slots[i] = true
    simp [slotIs, hl, hd]

/-- The ISSUED entry of a timed-out operation is FAILED (R68, R132). -/
theorem timeOut_failedAt {s : State} {op : InFlight} {k : Nat} {e : Entry} (hp : op.presenter = .entry)
    (he : s.queue[k]? = some e) (hi : e.status = .issued) (hh : s.atHead k e = true) :
    FailedAt (s.timeOut op) k e.request := by
  have told : FailedAt ((s.endOperation op.bank).tellTimeout op) k e.request := by
    rw [State.tellTimeout, hp]
    refine .of_map (s := s.endOperation op.bank) rfl (fun e => ?_) he hh ?_
    · split <;> rfl
    · simp [hi]
  exact (told.makeStuck op.bank).congr (by rw [State.timeOut, State.handFault_queue])

theorem timeOut_faults (s : State) (op : InFlight) :
    (s.timeOut op).faults = (s.handFault (State.timeoutReport op)).faults := by
  rw [State.timeOut]
  exact handFault_faults_congr _ (by rw [State.makeStuck_faults, tellTimeout_eq]; rfl)
    (by rw [State.makeStuck_clock, tellTimeout_eq]; rfl)

/-- Settles O34, from what the timeout leaves and what the end of its event keeps of it. -/
theorem accessTimeoutMakesItsBankStuck : Obligations.AccessTimeoutMakesItsBankStuck := by
  intro s op ho
  have run : exec .accessTimeout s = .next ((s.timeOut op).finish s op.kind.isWord) := by
    show execAccessTimeout s = _
    rw [execAccessTimeout, ho]
  obtain ⟨state, request, lost⟩ := timeOut_bank s op
  obtain ⟨state', request', lost'⟩ := timeOut_bank_kept s op s op.kind.isWord
  have ended := finish_eventEnd (s.timeOut op) s op.kind.isWord
  refine ⟨_, run, state'.trans state, request'.trans request, lost'.trans lost, ended.faults.trans (timeOut_faults s op),
    fun i l hp hl hd hb hf => ?_, fun k e hp hw hk he hh => ?_⟩
  · have slot := timeOut_slot hp hl hd
    obtain ⟨m, hm, kept⟩ := ended.slots i _ slot
    obtain ⟨m', hm', held, -⟩ := heldLine_steps (State.finish_steps (s.timeOut op) s op.kind.isWord) (i := i)
      (l := { l with state := .held, drainContributors := 0, redirty := false })
      (by
        show ((s.timeOut op).bankState l.bank).isStuck = true
        rw [hb, state, if_pos hf]
        rfl) slot rfl
    cases hm'.symm.trans hm
    exact ⟨m, hm, held, kept.addr, kept.allocatedAt, kept.age, kept.ageRuns, kept.valid⟩
  · have issued : e.status = .issued := by
      obtain ⟨h, hi, -⟩ := List.findIdx?_eq_some_iff_getElem.mp hk
      cases (List.getElem?_eq_getElem h).symm.trans he
      simpa using hi
    exact List.mem_of_mem_drop (finish_answers (timeOut_failedAt hp he issued hh) (by rw [hw, Bool.true_or]))

end Sys2Proof.Machine

/-! Records and marks that leave the Fault Log (R159, R165 to R167): a hold that clears is followed by a release walk (R60). -/

namespace Sys2Proof.Machine

/-! ## The judgement of a hold -/

theorem judgeHold_faults (s : State) (b : BankNo) : s.judgeHold b =
    { s with faults := { s.faults with hold := (s.judgeHold b).faults.hold } } := by
  unfold State.judgeHold
  split <;> rfl

/-- A hold stays while a record names its bank or the bank carries a mark (R159). -/
theorem judgeHold_hold (s : State) (b c : BankNo) : (s.judgeHold b).faults.hold[c] =
    if c = b then s.faults.hold[c] && (s.recordNames c || s.faults.unlogged[c]) else s.faults.hold[c] := by
  cases h : (s.recordNames b || s.faults.unlogged[b]) with
  | true =>
    rw [State.judgeHold_kept s b h]
    split
    next e =>
      subst e
      rw [h, Bool.and_true]
    · rfl
  | false =>
    rw [State.judgeHold_cleared s b h]
    split
    next e =>
      subst e
      rw [h, Bool.and_false]
      exact updAt_self _ _ _
    next e => exact updAt_ne _ _ (Ne.symm e)

/-- An event that clears a hold and sets none is followed by one walk where the banks agree with their lines (R60). -/
theorem finish_holdCleared {s u : State} (hb : u.banks = s.banks) (hp : u.pins.fltpass = s.pins.fltpass)
    (hn : ∀ c : BankNo, u.faults.hold[c] = true → s.faults.hold[c] = true) {b : BankNo} (hs : s.faults.hold[b] = true)
    (hu : u.faults.hold[b] = false) (hh : ∀ c : BankNo, s.HandshakeOf c) : TailEnd u.releaseWalk (u.finish s false) := by
  have thaws : ∀ c, State.becameFrozen s u c = false := fun c => by
    cases hc : u.faults.hold[c] with
    | false => simp [State.becameFrozen, State.frozen, hc]
    | true => simp [State.becameFrozen, State.frozen, hc, hn c hc, hp]
  have cleared : State.holdCleared s u = true :=
    List.any_eq_true.mpr ⟨b, List.mem_finRange b, by rw [hs, hu]; rfl⟩
  exact finish_afterQueue (runQueue_walked thaws (by simp [State.isRelease, cleared]) fun c =>
    handshake_congr (by rw [hb]) (hh c))

/-! ## CLEAR UNLOGGED (R167) -/

theorem any_toList_iff {n : Nat} (v : Vector Bool n) : v.toList.any id = true ↔ ∃ i : Fin n, v[i] = true := by
  have none_set := countP_eq_zero_iff v id
  rw [List.countP_eq_zero] at none_set
  rw [List.any_eq_true]
  simpa using not_congr none_set

section
variable (s : State) (b : BankNo)

theorem clearUnlogged_eq : s.clearUnlogged b = { s with faults := { s.faults with
    unlogged := updAt s.faults.unlogged b fun _ => false
    overflow := if (updAt s.faults.unlogged b fun _ => false).toList.any id then s.faults.overflow else 0
    hold := (s.clearUnlogged b).faults.hold } } := judgeHold_faults _ b

theorem clearUnlogged_unlogged (c : BankNo) :
    (s.clearUnlogged b).faults.unlogged[c] = (c != b && s.faults.unlogged[c]) := by
  rw [clearUnlogged_eq]
  by_cases e : c = b
  · subst e
    rw [bne_self_eq_false, Bool.false_and]
    exact updAt_self _ _ _
  · rw [bne_iff_ne.mpr e, Bool.true_and]
    exact updAt_ne _ _ (Ne.symm e)

theorem clearUnlogged_hold (c : BankNo) : (s.clearUnlogged b).faults.hold[c] =
    if c = b then s.faults.hold[c] && s.recordNames c else s.faults.hold[c] := by
  refine (judgeHold_hold _ b c).trans ?_
  split
  next e =>
    subst e
    rw [updAt_self, Bool.or_false]
    rfl
  · rfl

/-- The overflow count stays while another bank carries a mark. -/
theorem clearUnlogged_overflow : (s.clearUnlogged b).faults.overflow =
    if ∃ c : BankNo, c ≠ b ∧ s.faults.unlogged[c] = true then s.faults.overflow else 0 := by
  have marks : (updAt s.faults.unlogged b fun _ => false).toList.any id = true ↔
      ∃ c : BankNo, c ≠ b ∧ s.faults.unlogged[c] = true := by
    rw [any_toList_iff]
    refine exists_congr fun c => ?_
    by_cases e : b = c
    · subst e
      rw [updAt_self]
      exact ⟨nofun, fun h => absurd rfl h.1⟩
    · rw [updAt_ne _ _ e]
      exact (and_iff_right (Ne.symm e)).symm
  rw [clearUnlogged_eq]
  exact if_congr marks rfl rfl

end

theorem exec_clearUnlogged {s : State} {bank : Byte} {b : BankNo} (hw : s.awaitRise = false) (hb : bank.toNat = b.val) :
    exec (.clearUnlogged bank) s = .next (((s.clearUnlogged b).finish s false).reply 1 .done []) := by
  simp only [exec, execClearUnlogged, State.onFrame_taken hw, hb, eighth_eq_some]

/-- Settles O42, from the judgement of the hold and the walk that its clearing brings. -/
theorem clearUnloggedClearsMarkCountAndHold : Obligations.ClearUnloggedClearsMarkCountAndHold := by
  intro s bank hw
  refine ⟨fun hn => ?_, fun b hb => ⟨_, exec_clearUnlogged hw hb, rfl, ?_⟩⟩
  · simp only [exec, execClearUnlogged, State.onFrame_taken hw, eighth_eq_none hn]
    rfl
  · have faults : (((s.clearUnlogged b).finish s false).reply 1 .done []).faults = (s.clearUnlogged b).faults :=
      (finish_eventEnd (s.clearUnlogged b) s false).faults
    rw [faults]
    refine ⟨by rw [clearUnlogged_eq], by rw [clearUnlogged_eq], clearUnlogged_unlogged s b, ?_, clearUnlogged_hold s b,
      fun hs hu hh => ?_⟩
    · rw [clearUnlogged_overflow]
    · have held : ∀ c : BankNo, (s.clearUnlogged b).faults.hold[c] = true → s.faults.hold[c] = true := by
        intro c hc
        rw [clearUnlogged_hold] at hc
        split at hc
        · exact (Bool.and_eq_true_iff.mp hc).1
        · exact hc
      have walked := finish_holdCleared (u := s.clearUnlogged b) (by rw [clearUnlogged_eq]) (by rw [clearUnlogged_eq])
        held hs hu hh
      have same : ({ s with faults := (s.clearUnlogged b).faults } : State) = s.clearUnlogged b := by
        rw [clearUnlogged_eq]
      rw [same]
      exact walked.queueIsThatOf

/-! ## The rise of MCS (R187, R189) -/

/-- The part with MCS high and no wait for its rise. -/
def State.risen (s : State) : State := { s with awaitRise := false, pins := { s.pins with mcsLow := false } }

namespace State

/-! The wait for MCS and its level bear on the management port alone (R189): nothing that a walk does depends on them. -/

theorem risen_settleWaking (s : State) (b : BankNo) (o : Rest) : s.risen.settleWaking b o = (s.settleWaking b o).risen := by
  unfold settleWaking
  cases o with
  | retain =>
    dsimp only
    rw [apply_ite risen]
    rfl
  | off =>
    dsimp only
    rw [apply_ite risen]
    rfl

theorem risen_wake (s : State) (b : BankNo) (o : Rest) : s.risen.wake b o = (s.wake b o).risen := by
  unfold wake
  dsimp only
  rw [apply_ite risen, ← risen_settleWaking]
  rfl

theorem risen_demand (s : State) (b : BankNo) : s.risen.demand b = (s.demand b).risen := by
  have fitted : s.risen.fitted b = s.fitted b := rfl
  unfold demand
  rw [fitted]
  split
  · have state : s.risen.bankState b = s.bankState b := rfl
    rw [state]
    cases s.bankState b with
    | off => exact risen_wake s b .off
    | retain => exact risen_wake s b .retain
    | _ => rfl
  · rfl

theorem risen_judge (s : State) (r : Request) : s.risen.judge r = s.judge r := rfl

theorem risen_perform (s : State) (r : Request) (v : Verdict) : s.risen.perform r v = (s.perform r v).risen := by
  cases v with
  | held reason =>
    cases reason with
    | bank => exact risen_demand s r.bank
    | _ => rfl
  | _ => rfl

end State

theorem risen_walk (fuel k : Nat) (s : State) :
    sweep State.walkRule fuel k s.risen = (sweep State.walkRule fuel k s).risen := by
  induction fuel generalizing k s with
  | zero => rfl
  | succ fuel ih =>
    cases he : s.queue[k]? with
    | none => rw [sweep_end he, sweep_end (s := s.risen) he]
    | some e =>
      cases hv : State.walkRule s k e with
      | pass => rw [sweep_passed he hv, sweep_passed (s := s.risen) he hv, ih]
      | fail =>
        rw [sweep_failed he hv, sweep_failed (s := s.risen) he hv, ← ih]
        rfl
      | evaluate =>
        cases hj : (s.judge e.request).entryStatus with
        | none =>
          rw [sweep_answered he hv hj, sweep_answered (s := s.risen) he hv hj, ← ih, ← State.risen_perform]
          rfl
        | some st =>
          rw [sweep_kept he hv hj, sweep_kept (s := s.risen) he hv hj, ← ih, ← State.risen_perform]
          rfl

theorem risen_releaseWalk (s : State) : s.risen.releaseWalk = s.releaseWalk.risen := risen_walk _ 0 s

/-! ## FAULT POP and the end of its frame (R165, R166) -/

section
variable {s : State} {r : FaultRecord} {rest : List FaultRecord} (hr : s.faults.records = r :: rest)
include hr

theorem removeHead_eq : s.removeHead = { s with faults := { s.faults with
    records := rest, hold := s.removeHead.faults.hold } } := by
  simp only [State.removeHead, hr]
  exact judgeHold_faults _ _

theorem removeHead_hold (b : BankNo) : s.removeHead.faults.hold[b] = if b = r.report.bank then
    s.faults.hold[b] && (rest.any (fun r => r.report.bank == b) || s.faults.unlogged[b]) else s.faults.hold[b] := by
  simp only [State.removeHead, hr]
  exact judgeHold_hold _ _ b

end

/-- Settles O41: the removal is that of the head record and the judgement of its bank's hold; the rise of MCS bears on no
walk. -/
theorem faultPopRemovesAtTheFramesEnd : Obligations.FaultPopRemovesAtTheFramesEnd := by
  intro s shifted
  refine ⟨fun hw hr => ?_, fun r rest hw hr => ?_, fun f hf hb => ?_, fun hf => ?_, fun f r rest hf hm hs hr => ?_⟩
  · simp only [exec, execFaultPop, State.onFrame_taken hw, hr]
    rfl
  · simp only [exec, execFaultPop, State.onFrame_taken hw, hr]
  · have broken : (f.popMarked && decide (Config.recordBytes ≤ shifted)) = false := by
      rcases hb with h | h
      · rw [h, Bool.false_and]
      · rw [decide_eq_false (by simpa [Config.recordBytes] using h), Bool.and_false]
    simp only [exec, execFaultPopRemoval, hf, broken]
    rfl
  · simp only [exec, execFaultPopRemoval, hf, State.endFrame]
  · have complete : (f.popMarked && decide (Config.recordBytes ≤ shifted)) = true := by
      rw [hm, Bool.true_and, decide_eq_true_iff]
      exact hs
    have removed := removeHead_eq (s := s.endFrame) hr
    have hold := removeHead_hold (s := s.endFrame) hr
    have ended := finish_eventEnd s.endFrame.removeHead s false
    have walked : ∀ b : BankNo, s.faults.hold[b] = true → s.endFrame.removeHead.faults.hold[b] = false →
        (∀ b : BankNo, s.HandshakeOf b) →
          TailEnd s.endFrame.removeHead.releaseWalk (s.endFrame.removeHead.finish s false) := by
      refine fun b => finish_holdCleared (by rw [removed]; rfl) (by rw [removed]; rfl) fun c hc => ?_
      rw [hold] at hc
      split at hc
      · exact (Bool.and_eq_true_iff.mp hc).1
      · exact hc
    refine ⟨s.endFrame.removeHead.finish s false, ?_, ?_⟩
    · simp only [exec, execFaultPopRemoval, hf, complete, if_true]
    generalize s.endFrame.removeHead.finish s false = t at *
    have faults := ended.faults
    rw [ended.mgmt, ended.awaitRise, ended.pins, faults]
    refine ⟨by rw [removed]; rfl, by rw [removed]; rfl, by rw [removed]; rfl, by rw [removed], by rw [removed]; rfl,
      by rw [removed]; rfl, by rw [removed]; rfl, hold, ?_⟩
    rintro ⟨b, hb, hu⟩ hh
    have risen : s.endFrame.removeHead = State.risen { s with mgmt := none, faults := s.endFrame.removeHead.faults } := by
      rw [removed]
      rfl
    have queue := (walked b hb hu hh).queueIsThatOf
    rw [risen, risen_releaseWalk] at queue
    exact queue

end Sys2Proof.Machine

/-! The Arbiter (R107, R108, R134 to R136, Table 6-3): what is offered, what is chosen, and the turns of the alternation
flag. -/

namespace Sys2Proof.Machine

/-! ## What is offered -/

theorem isCandidate_iff (s : State) (flagged : Bool) (i : SlotNo) :
    s.isCandidate flagged i = true ↔ s.IsDrainCandidate flagged i := by
  unfold State.isCandidate State.IsDrainCandidate
  cases s.store.slots[i] with
  | none => simp
  | some l => cases flagged <;> simp [and_assoc]

/-- The first candidate of the age list (R5, R107). -/
theorem find_candidate_iff (s : State) (flagged : Bool) (i : SlotNo) :
    s.store.ageList.find? (s.isCandidate flagged) = some i ↔ s.FirstInAgeList (s.IsDrainCandidate flagged) i := by
  rw [List.find?_eq_some_iff_append, isCandidate_iff]
  simp only [Bool.not_eq_true', ← Bool.not_eq_true, isCandidate_iff]
  constructor
  · rintro ⟨hi, older, younger, parts, hn⟩
    exact ⟨older, younger, parts, hi, hn⟩
  · rintro ⟨older, younger, parts, hi, hn⟩
    exact ⟨hi, older, younger, parts, hn⟩

theorem find_candidate_none (s : State) (flagged : Bool) :
    s.store.ageList.find? (s.isCandidate flagged) = none ↔ ∀ j ∈ s.store.ageList, ¬s.IsDrainCandidate flagged j := by
  simp only [List.find?_eq_none, isCandidate_iff]

/-- In WARN and RECOVER every drain is urgent (R108). -/
theorem drainOffer_urgent {s : State} (hm : s.mode ≠ .normal) :
    s.drainOffer = (s.store.ageList.find? (s.isCandidate false)).map fun i => (i, .urgent) := by
  unfold State.drainOffer
  cases h : s.mode with
  | normal => exact absurd h hm
  | _ => rfl

/-- In NORMAL the first line of a flagged bank comes before the first of any bank (R108). -/
theorem drainOffer_normal {s : State} (hm : s.mode = .normal) :
    s.drainOffer = ((s.store.ageList.find? (s.isCandidate true)).map fun i => (i, .drainWanted)).or
      ((s.store.ageList.find? (s.isCandidate false)).map fun i => (i, .drain)) := by
  simp only [State.drainOffer, hm]
  cases s.store.ageList.find? (s.isCandidate true) <;> rfl

theorem drainOffer_urgent_iff {s : State} (hm : s.mode ≠ .normal) (i : SlotNo) (cls : DrainClass) :
    s.drainOffer = some (i, cls) ↔ cls = .urgent ∧ s.FirstInAgeList (s.IsDrainCandidate false) i := by
  rw [drainOffer_urgent hm, Option.map_eq_some_iff, ← find_candidate_iff]
  constructor
  · rintro ⟨j, hj, e⟩
    cases e
    exact ⟨rfl, hj⟩
  · rintro ⟨rfl, hi⟩
    exact ⟨i, hi, rfl⟩

theorem drainOffer_normal_iff {s : State} (hm : s.mode = .normal) (i : SlotNo) (cls : DrainClass) :
    s.drainOffer = some (i, cls) ↔
      (cls = .drainWanted ∧ s.FirstInAgeList (s.IsDrainCandidate true) i) ∨
        (cls = .drain ∧ (∀ j ∈ s.store.ageList, ¬s.IsDrainCandidate true j) ∧
          s.FirstInAgeList (s.IsDrainCandidate false) i) := by
  rw [drainOffer_normal hm, ← find_candidate_iff, ← find_candidate_iff, ← find_candidate_none]
  cases s.store.ageList.find? (s.isCandidate true) with
  | some j => simp [Prod.ext_iff, and_comm, eq_comm]
  | none =>
    cases s.store.ageList.find? (s.isCandidate false) with
    | some j => simp [Prod.ext_iff, and_comm, eq_comm]
    | none => simp

theorem readyEntry_iff (s : State) (k : Nat) : s.readyEntry = some k ↔
    (∃ e, s.queue[k]? = some e ∧ e.status = .ready ∧ s.bankState e.request.bank = .active) ∧
      ∀ j < k, ∀ e, s.queue[j]? = some e → ¬(e.status = .ready ∧ s.bankState e.request.bank = .active) := by
  rw [State.readyEntry, List.findIdx?_eq_some_iff_getElem]
  simp only [Bool.and_eq_true, beq_iff_eq]
  constructor
  · rintro ⟨hk, hr, hn⟩
    refine ⟨⟨_, List.getElem?_eq_getElem hk, hr⟩, fun j hj e he => ?_⟩
    obtain ⟨hl, rfl⟩ := List.getElem?_eq_some_iff.mp he
    exact hn j hj
  · rintro ⟨⟨e, he, hr⟩, hn⟩
    obtain ⟨hk, rfl⟩ := List.getElem?_eq_some_iff.mp he
    exact ⟨hk, hr, fun j hj => hn j hj _ (List.getElem?_eq_getElem (by omega))⟩

theorem zeroLineOffer_iff (s : State) (b : BankNo) : s.zeroLineOffer = some b ↔
    s.clear.outstanding = false ∧ s.clear.queue.head? = some b ∧ (s.bankState b).isClearing = true := by
  unfold State.zeroLineOffer
  cases s.clear.outstanding with
  | true => simp
  | false => simp [Option.filter_eq_some_iff]

/-! ## The choice and the grant (Table 6-3) -/

section
variable {s : State} {i : SlotNo} {k : Nat}

theorem choice_urgent (h : s.drainOffer = some (i, .urgent)) : s.choice = some (.drain i .urgent) := by
  simp only [State.choice, h]

theorem choice_contested (h : s.drainOffer = some (i, .drainWanted)) (hr : s.readyEntry = some k) :
    s.choice = some (match s.port.turn with
      | .entry => .entry k
      | .drain => .drain i .drainWanted) := by
  simp only [State.choice, h, hr]
  cases s.port.turn <;> rfl

theorem choice_uncontested {cls : DrainClass} (h : s.drainOffer = some (i, cls)) (hr : s.readyEntry = none) :
    s.choice = some (.drain i cls) := by
  cases cls <;> simp only [State.choice, h, hr]

theorem choice_ready (hr : s.readyEntry = some k) (hu : ∀ i : SlotNo, s.drainOffer ≠ some (i, .urgent))
    (hd : ∀ i : SlotNo, s.drainOffer ≠ some (i, .drainWanted)) : s.choice = some (.entry k) := by
  cases h : s.drainOffer with
  | none => simp only [State.choice, h, hr]
  | some offer =>
    obtain ⟨i, cls⟩ := offer
    cases cls with
    | urgent => exact absurd h (hu i)
    | drainWanted => exact absurd h (hd i)
    | drain => simp only [State.choice, h, hr]

theorem choice_zeroLineOffer (h : s.drainOffer = none) (hr : s.readyEntry = none) :
    s.choice = s.zeroLineOffer.map .zeroLine := by
  simp only [State.choice, h, hr]

theorem grant_none (h : s.pins.resetn = true ∨ s.port.inFlight ≠ none ∨ s.choice = none) : s.grant = s := by
  unfold State.grant
  split
  · rfl
  next hc =>
    have idle : s.choice = none := by
      rw [Bool.or_eq_true, not_or, Option.isSome_iff_ne_none] at hc
      exact (h.resolve_left hc.1).resolve_left hc.2
    rw [idle]

/-! While the port is FREE and RESETn negated the choice is granted (R134). -/

theorem grant_chosenEntry (hr : s.pins.resetn = false) (hf : s.port.inFlight = none) (h : s.choice = some (.entry k)) :
    s.grant = s.grantEntry k := by simp [State.grant, hr, hf, h]

theorem grant_chosenDrain {cls : DrainClass} (hr : s.pins.resetn = false) (hf : s.port.inFlight = none)
    (h : s.choice = some (.drain i cls)) : s.grant = s.grantDrain i cls := by simp [State.grant, hr, hf, h]

theorem grant_chosenZeroLine {b : BankNo} (hr : s.pins.resetn = false) (hf : s.port.inFlight = none)
    (h : s.choice = some (.zeroLine b)) : s.grant = s.grantZeroLine b := by simp [State.grant, hr, hf, h]

/-! ## The turns of the alternation flag (R136) -/

theorem grantEntry_turn (hk : k < s.queue.length) : (s.grantEntry k).port.turn = .drain := by
  unfold State.grantEntry
  rw [List.getElem?_eq_getElem hk]
  dsimp only
  split <;> rfl

theorem grantDrain_turn (h : (s.store.slots[i]).isSome = true) :
    (s.grantDrain i .drainWanted).port.turn = .entry ∧ (s.grantDrain i .urgent).port.turn = s.port.turn ∧
      (s.grantDrain i .drain).port.turn = s.port.turn := by
  obtain ⟨l, hl⟩ := Option.isSome_iff_exists.mp h
  unfold State.grantDrain
  rw [hl]
  exact ⟨rfl, rfl, rfl⟩

end

theorem setTurn_registerValue (s : State) (flag : Turn) (r : Register) :
    (s.setTurn flag).registerValue r = s.registerValue r := by cases r <;> rfl

/-- Settles O35: each row of the grant order, each grant's turn of the flag, and the resets and reports. -/
theorem alternationFlagTakesTurns : Obligations.AlternationFlagTakesTurns := by
  intro s
  refine ⟨drainOffer_urgent_iff, drainOffer_normal_iff, readyEntry_iff s, zeroLineOffer_iff s, fun i => choice_urgent,
    fun i => choice_uncontested, fun k => choice_ready, fun i => choice_uncontested,
    fun hd hr => ⟨fun b hb => ?_, fun hz => ?_⟩,
    grant_none, fun hr hf => ⟨fun k => grant_chosenEntry hr hf, fun i cls => grant_chosenDrain hr hf,
      fun b => grant_chosenZeroLine hr hf⟩, fun i k => choice_contested, fun k => grantEntry_turn, fun i => grantDrain_turn,
    fun b => rfl, ?_, fun hr => ?_, fun flag => ⟨rfl, setTurn_registerValue s flag, fun i => rfl⟩⟩
  · rw [choice_zeroLineOffer hd hr, hb]
    rfl
  · rw [choice_zeroLineOffer hd hr, hz]
    rfl
  · obtain ⟨t, ht, -, -, -, -, -, hp, -⟩ := powerOnResetGivesThePowerOnValues.2 s
    exact ⟨t, ht, by rw [hp]; rfl⟩
  · exact ⟨_, exec_resetnAssertion hr, by rw [(resetAsserted_power s).port]; rfl⟩

end Sys2Proof.Machine

/-! Power control as every command sees it (section 4): the small steps that move the banks' power (`PowerStep`), of which
every command's own effect and what follows it up to the timers is a chain, and what a command then leaves (`PowerEvent`). -/

namespace Sys2Proof.Machine

open Relation

/-- The banks stand: each keeps its state and its agreement with its lines, no idle or off timer starts, no bank gains a line,
and the Clear Engine's queue and pending clears stay. -/
structure BanksKept (s t : State) : Prop where
  state : ∀ b, t.bankState b = s.bankState b := by exact fun _ => rfl
  handshake : ∀ b, s.HandshakeOf b → t.HandshakeOf b := by exact fun _ h => h
  idle : ∀ b : BankNo, t.banks[b].idleTimer.isRunning = true → s.banks[b].idleTimer.isRunning = true := by
    exact fun _ h => h
  off : ∀ b : BankNo, t.banks[b].offTimer.isRunning = true → s.banks[b].offTimer.isRunning = true := by
    exact fun _ h => h
  queue : t.clear.queue = s.clear.queue := by rfl
  wanted : t.clear.wanted = s.clear.wanted := by rfl
  lines : ∀ b, t.lineCount b ≤ s.lineCount b := by exact fun _ => le_rfl

/-- One small step of power control. -/
inductive PowerStep (s : State) : State → Prop where
  | kept {t : State} (h : BanksKept s t) : PowerStep s t
  /-- A bank at rest or STUCK is raised (R78, R93). -/
  | wake (b : BankNo) (o : Rest) (h : s.bankState b = o.state ∨ s.bankState b = .stuck o) : PowerStep s (s.wake b o)
  /-- The status lines end a wake (R80, R81). -/
  | settleWaking (b : BankNo) (level : StatusLevel) (settled : Bool) (o : Rest) (h : s.bankState b = .waking o)
      (ha : ((s.drive b level settled).sampleLines b).banks[b].atRequest = true) :
      PowerStep s (((s.drive b level settled).sampleLines b).settleWaking b o)
  /-- The status lines end a descent (R79). -/
  | settleDescending (b : BankNo) (level : StatusLevel) (settled : Bool) (o : Rest) (h : s.bankState b = .descending o)
      (ha : ((s.drive b level settled).sampleLines b).banks[b].atRequest = true) :
      PowerStep s (((s.drive b level settled).sampleLines b).settleDescending b o)
  /-- A bank becomes STUCK (R86). -/
  | makeStuck (b : BankNo) : PowerStep s (s.makeStuck b)
  /-- A bank becomes STUCK at a change of its status lines (R76). -/
  | unsolicited (b : BankNo) (level : StatusLevel) (settled : Bool) (hf : s.fitted b = true)
      (hs : (s.bankState b).isStuck = false) : PowerStep s (((s.drive b level settled).sampleLines b).makeStuck b)
  /-- A bank is lowered, to OFF only without lines (R83, R84, R92, R94). -/
  | descend (b : BankNo) (o : Rest) (hc : (s.bankState b).isClearing = false) (hl : o = .off → s.lineCount b = 0) :
      PowerStep s (s.descend b o)
  /-- A clear of an ACTIVE bank without lines begins (R145). -/
  | enterClearing (b : BankNo) (h : s.bankState b = .active) (hl : s.lineCount b = 0) : PowerStep s (s.enterClearing b .retain)
  /-- A clear of a bank without lines is left pending (R145). -/
  | pendClear (b : BankNo) (hl : s.lineCount b = 0) : PowerStep s (s.setClearPending b true)
  /-- A line is allocated, and the pending clear of its bank withdrawn (R7, R146). -/
  | allocate (r : Request) (i : SlotNo) (h : Justified s r (.allocated i)) :
      PowerStep s (State.setClearPending { s with store := s.store.allocate i r s.clock.msTime } r.bank false)
  /-- The clear of the head of the clear queue ends (R150). -/
  | endClear (b : BankNo) (h : s.clear.queue.head? = some b) : PowerStep s (s.endClear b)
  /-- RESETn is asserted (R97, R153). -/
  | warmReset : PowerStep s (resetAsserted s)
  /-- BANKS FITTED changes in a part at rest (R98, R191). -/
  | refit (v : BitVec 16) (h : s.mayRefit = true) : PowerStep s (s.refit v)

/-- A chain of small steps of power control. -/
abbrev PowerSteps : State → State → Prop := ReflTransGen PowerStep

namespace BanksKept

theorem refl (s : State) : BanksKept s s := {}

theorem trans {s t u : State} (h : BanksKept s t) (h' : BanksKept t u) : BanksKept s u where
  state := fun b => (h'.state b).trans (h.state b)
  handshake := fun b x => h'.handshake b (h.handshake b x)
  idle := fun b x => h.idle b (h'.idle b x)
  off := fun b x => h.off b (h'.off b x)
  queue := h'.queue.trans h.queue
  wanted := h'.wanted.trans h.wanted
  lines := fun b => (h'.lines b).trans (h.lines b)

/-- Where the bank records stand, so does power control. -/
theorem of_banks {s t : State} (hb : t.banks = s.banks) (hc : t.clear = s.clear)
    (hl : ∀ b, t.lineCount b ≤ s.lineCount b) : BanksKept s t where
  state := fun b => by rw [State.bankState, State.bankState, hb]
  handshake := fun b => handshake_congr (by rw [hb])
  idle := fun b x => by rwa [hb] at x
  off := fun b x => by rwa [hb] at x
  queue := by rw [hc]
  wanted := by rw [hc]
  lines := hl

theorem of_blocks {s t : State} (hb : t.banks = s.banks) (hc : t.clear = s.clear) (hs : t.store = s.store) :
    BanksKept s t :=
  of_banks hb hc fun b => by rw [State.lineCount, State.lineCount, hs]

/-- One record changes, and keeps what power control asks of it. -/
theorem setBank {s : State} {b : BankNo} {f : BankRecord → BankRecord}
    (hs : (f s.banks[b]).state = s.banks[b].state) (hh : s.HandshakeOf b → (s.setBank b f).HandshakeOf b)
    (hi : (f s.banks[b]).idleTimer.isRunning = true → s.banks[b].idleTimer.isRunning = true)
    (ho : (f s.banks[b]).offTimer = s.banks[b].offTimer) : BanksKept s (s.setBank b f) where
  state := fun c => by
    by_cases e : b = c
    · subst e
      rw [State.bankState, State.setBank_same, hs, State.bankState]
    · rw [State.bankState, State.setBank_other _ _ e, State.bankState]
  handshake := fun c x => by
    by_cases e : b = c
    · subst e
      exact hh x
    · exact handshake_congr (State.setBank_other _ _ e) x
  idle := fun c x => by
    by_cases e : b = c
    · subst e
      rw [State.setBank_same] at x
      exact hi x
    · rwa [State.setBank_other _ _ e] at x
  off := fun c x => by
    by_cases e : b = c
    · subst e
      rwa [State.setBank_same, ho] at x
    · rwa [State.setBank_other _ _ e] at x

/-- A change that no agreement with the lines depends on. -/
theorem of_record {s : State} {b : BankNo} {f : BankRecord → BankRecord}
    (hf : ∀ k : BankRecord, f k =
      { k with lost := (f k).lost, pendingWake := (f k).pendingWake, idleTimer := (f k).idleTimer })
    (hi : ∀ k : BankRecord, (f k).idleTimer.isRunning = true → k.idleTimer.isRunning = true) :
    BanksKept s (s.setBank b f) := by
  have record := hf s.banks[b]
  refine setBank (by rw [record]) (fun h => ?_) (hi _) (by rw [record])
  unfold State.HandshakeOf State.bankState at *
  rw [State.setBank_same, record]
  exact h

end BanksKept

namespace PowerSteps

variable {s t u : State}

theorem kept (h : BanksKept s t) : PowerSteps s t := .single (.kept h)

theorem foldl {α : Type} {f : State → α → State} (hf : ∀ s a, PowerSteps s (f s a)) (l : List α) (s : State) :
    PowerSteps s (l.foldl f s) := by
  induction l generalizing s with
  | nil => exact .refl
  | cons a l ih => exact (hf s a).trans (ih _)

/-! ## What follows an event, up to the timers -/

theorem pendWake (s : State) (b : BankNo) : PowerSteps s (s.setBank b fun k => { k with pendingWake := true }) :=
  kept (.of_record (f := fun k => { k with pendingWake := true }) (fun _ => rfl) fun _ => id)

theorem demand (s : State) (b : BankNo) : PowerSteps s (s.demand b) := by
  unfold State.demand
  split
  · split
    next h => exact .single (.wake b .off (.inl h))
    next h => exact .single (.wake b .retain (.inl h))
    next => exact pendWake s b
    all_goals exact .refl
  · exact .refl

theorem addCause (s : State) (b : BankNo) (f : DrainCauses → DrainCauses) : PowerSteps s (s.addCause b f) := by
  have caused : PowerSteps s (s.setCauses b f) := kept {}
  unfold State.addCause
  split
  · exact .refl
  · split
    · exact caused
    · exact caused.trans (demand _ b)

theorem perform (s : State) (r : Request) (v : Verdict) (h : Justified s r v) : PowerSteps s (s.perform r v) := by
  cases v with
  | merged i =>
    exact kept (.of_banks rfl rfl fun b => (s.store.onLine_lineCount i _ (fun l => (mergedLine_kept r l).addr) b).le)
  | allocated i => exact .tail (.single (.allocate r i h)) (.kept {})
  | held reason =>
    cases reason with
    | bank => exact demand s r.bank
    | _ => exact .refl
  | _ => exact kept {}

theorem reevaluate (s : State) (k : Nat) (e : Entry) : PowerSteps s (s.reevaluate k e) := by
  have judged := s.judge_justified e.request
  unfold State.reevaluate
  dsimp only
  split
  · exact .head (.kept (t := s.setStatus k _) {}) (perform _ _ _ judged)
  · exact .head (.kept (t := s.removeEntry k) {}) (perform _ _ _ judged)

theorem sweep (rule : State → Nat → Entry → Visit) (fuel k : Nat) (s : State) :
    PowerSteps s (Machine.sweep rule fuel k s) :=
  sweep_relates (fun _ => .refl) (fun h h' => h.trans h') (fun _ _ _ _ _ => kept {}) (fun u k e _ _ => reevaluate u k e)
    fuel k s

theorem releaseWalks (n : Nat) (s : State) : PowerSteps s (State.releaseWalks n s) := by
  induction n generalizing s with
  | zero => exact .refl
  | succ n ih =>
    have walk : PowerSteps s s.releaseWalk := sweep ..
    unfold State.releaseWalks
    dsimp only
    split
    · exact walk.trans (ih _)
    · exact walk

theorem runQueue (pre : State) (released : Bool) (s : State) : PowerSteps s (State.runQueue pre released s) := by
  have frozen : PowerSteps s (State.freezeReevaluation pre s) := sweep ..
  unfold State.runQueue
  dsimp only
  split
  · exact frozen.trans (releaseWalks _ _)
  · exact frozen

theorem untilGrant (s pre : State) (released : Bool) : PowerSteps s (s.untilGrant pre released) := by
  have expiries : ∀ u : State, PowerSteps u (State.takeAgeExpiries pre u) := fun u => by
    refine foldl (fun t b => ?_) _ u
    split
    · exact addCause t b _
    · exact .refl
  have choice : ∀ u : State, PowerSteps u u.pressureChoice := fun u => by
    unfold State.pressureChoice
    split
    · dsimp only
      split
      · exact addCause _ _ _
      · exact .refl
    · exact .refl
  exact (runQueue pre released s).trans ((expiries _).trans (choice _))

theorem grant (s : State) : PowerSteps s s.grant := by
  have queue : s.grant.clear.queue = s.clear.queue := by
    rcases grant_cases s with ⟨e, -⟩ | ⟨k, e, -⟩ | ⟨i, cls, e, -⟩ | ⟨b, e, -⟩ <;> rw [e]
    · unfold State.grantEntry
      split
      · rfl
      · dsimp only
        split <;> rfl
    · unfold State.grantDrain
      split
      · rfl
      · cases cls <;> rfl
    · rfl
  have granted := grant_end s
  exact kept
    { state := fun b => by rw [State.bankState, State.bankState, granted.banks]
      handshake := fun b => handshake_congr (by rw [granted.banks])
      idle := fun b x => by rwa [granted.banks] at x
      off := fun b x => by rwa [granted.banks] at x
      queue := queue
      wanted := granted.wanted
      lines := fun b => (granted.lines b).le }

end PowerSteps
end Sys2Proof.Machine

/-! What a command does to power control: a chain of small steps followed by the timers, or less (`PowerEvent`). -/

namespace Sys2Proof.Machine

open Relation

/-! ## Line counts (R20) -/

/-- Fewer places that count give a smaller count. -/
theorem countP_toList_le {α : Type} {n : Nat} {v w : Vector α n} {p : α → Bool}
    (h : ∀ i : Fin n, p w[i] = true → p v[i] = true) : w.toList.countP p ≤ v.toList.countP p := by
  have counted : ∀ u : Vector α n, u.toList.countP p = (List.finRange n).countP fun i => p u[i] := by
    intro u
    have places : u.toList = (List.finRange n).map fun i => u[i] := by
      apply List.ext_getElem
      · simp
      · intro k hk hk'
        simp
    rw [places, List.countP_map]
    rfl
  rw [counted, counted]
  exact List.countP_mono_left fun i _ => h i

namespace LineStore

theorem lineCount_le {st st' : LineStore} {b : BankNo}
    (h : ∀ i : SlotNo, slotOfBank b st'.slots[i] = true → slotOfBank b st.slots[i] = true) :
    st'.lineCount b ≤ st.lineCount b := countP_toList_le h

theorem ageAll_lineCount (st : LineStore) (b : BankNo) : st.ageAll.lineCount b = st.lineCount b := by
  have slot : ∀ i : SlotNo, slotOfBank b st.ageAll.slots[i] = slotOfBank b st.slots[i] := by
    intro i
    rw [ageAll_slot]
    cases st.slots[i] with
    | none => rfl
    | some l => simp [slotOfBank, Line.bank]
  exact le_antisymm (lineCount_le fun i h => slot i ▸ h) (lineCount_le fun i h => (slot i).symm ▸ h)

theorem free_lineCount_le (st : LineStore) (i : SlotNo) (b : BankNo) : (st.free i).lineCount b ≤ st.lineCount b := by
  refine lineCount_le fun j h => ?_
  by_cases e : i = j
  · subst e
    rw [free, updAt_self] at h
    cases h
  · rwa [free, updAt_ne _ _ e] at h

theorem discard_lineCount_le (st : LineStore) (a b : BankNo) : (st.discard a).lineCount b ≤ st.lineCount b := by
  refine lineCount_le fun j h => ?_
  rw [discard_slot] at h
  split at h
  · cases h
  · exact h

end LineStore

/-! ## What a command leaves -/

/-- Power control stands, and the idle and off timers go on following their conditions. -/
structure PowerStill (s t : State) : Prop extends BanksKept s t where
  timers : s.TimersFollowConditions → t.TimersFollowConditions := by exact id

/-- What a command does to power control. -/
inductive PowerEvent (s : State) : State → Prop where
  | still {t : State} (h : PowerStill s t) : PowerEvent s t
  | replied {t : State} (h : PowerEvent s t) (n : Nat) (status : MgmtStatus) (results : List Byte) :
      PowerEvent s (t.reply n status results)
  /-- A write of a policy register (R85). -/
  | policy (b : BankNo) (f : Policy → Policy) : PowerEvent s ((s.setPolicy b f).refreshTimersOf b)
  /-- An event, at whose end the timers follow their conditions. -/
  | ended {u : State} (h : PowerSteps s u) (pre : State) : PowerEvent s (u.afterGrant pre)
  /-- The event of an expired off timer (R84). -/
  | offExpired {u : State} (b : BankNo) (hb : s.bankState b = .retain) (hr : s.banks[b].offTimer.isRunning = true)
      (h : PowerSteps (s.descend b .off) u) (pre : State) : PowerEvent s (u.afterGrant pre)
  | powerOnReset {t : State} (h : exec .powerOnReset s = .next t) : PowerEvent s t

namespace PowerEvent

variable {s u : State}

theorem unchanged : PowerEvent s s := .still {}

theorem finish (h : PowerSteps s u) (pre : State) (released : Bool) : PowerEvent s (u.finish pre released) :=
  .ended (h.trans ((PowerSteps.untilGrant u pre released).trans (PowerSteps.grant _))) pre

theorem finishCompletion (h : PowerSteps s u) (pre : State) (released : Bool) :
    PowerEvent s (u.finishCompletion pre released) := by
  unfold State.finishCompletion
  split
  · exact .ended (h.trans (PowerSteps.untilGrant u pre released)) pre
  · exact finish h pre released

end PowerEvent

/-- Every next state of an outcome is so. -/
def Yields (p : State → Prop) (o : Host.Outcome State Fault Refusal) : Prop := ∀ t, o = .next t → p t

namespace Yields

variable {p : State → Prop} {s u : State}

theorem next (h : p u) : Yields p (.next u) := by
  rintro _ ⟨⟩
  exact h

theorem fault (f : Fault) : Yields p (.fault f) := fun _ h => nomatch h

theorem onFrame (hs : p s) {e : Host.Outcome State Fault Refusal} (h : Yields p e) : Yields p (s.onFrame e) := by
  intro t ht
  rcases State.onFrame_next ht with ⟨-, rfl⟩ | ⟨-, he⟩
  · exact hs
  · exact h t he

theorem cond {c : Prop} [Decidable c] {a b : Host.Outcome State Fault Refusal} (ha : c → Yields p a)
    (hb : ¬c → Yields p b) : Yields p (if c then a else b) := by
  split
  next h => exact ha h
  next h => exact hb h

end Yields

/-! ## Each command's own effect -/

namespace PowerSteps

variable (s : State)

theorem endOperation (b : BankNo) : BanksKept s (s.endOperation b) :=
  .trans (t := { s with port := { s.port with inFlight := none } }) {}
    (.of_record (f := fun k => { k with idleTimer := .stopped }) (fun _ => rfl) fun _ h => nomatch h)

theorem holdAwake (b : BankNo) : BanksKept s (s.holdAwake b) :=
  .of_record (f := fun k => { k with idleTimer := .stopped }) (fun _ => rfl) fun _ h => nomatch h

theorem handFault (rep : FaultReport) : BanksKept s (s.handFault rep) := .of_blocks (by simp) (by simp) (by simp)

theorem judgeHold (b : BankNo) : BanksKept s (s.judgeHold b) := .of_blocks (by simp) (by simp) (by simp)

theorem afterFreeing (b : BankNo) : BanksKept s (s.afterFreeing b) := .of_blocks (by simp) (by simp) (by simp)

theorem failBank (b : BankNo) (kind : FaultKind) : PowerSteps s (s.failBank b kind) :=
  .tail (.single (.makeStuck b)) (.kept (handFault _ _))

theorem takeRequest (r : Request) : PowerSteps s (s.takeRequest r) := by
  have judged := s.judge_justified r
  unfold State.takeRequest State.firstEvaluation
  split
  · dsimp only
    split
    · exact .head (.kept (t := s.appendEntry r _) {}) (perform _ r _ judged)
    · exact perform s r _ judged
  · exact kept {}

theorem routeWord (report : Report) (data : Vector Word 8) : BanksKept s (s.routeWord report data) := by
  unfold State.routeWord
  split
  · exact {}
  · split
    · exact {}
    · split <;> exact {}

theorem routeLine (i : SlotNo) (report : Report) : BanksKept s (s.routeLine i report) := by
  have freed : ∀ u : State, BanksKept u { u with store := u.store.free i } := fun u =>
    .of_banks rfl rfl (u.store.free_lineCount_le i)
  unfold State.routeLine
  split
  · exact {}
  next l _ =>
    split
    · exact {}
    · exact .trans (t := { s with store := { s.store.free i with drainedLines := s.store.drainedLines + 1 } })
        (.of_banks rfl rfl (s.store.free_lineCount_le i)) (afterFreeing _ l.bank)
    · exact .of_banks rfl rfl fun b => (s.store.onLine_lineCount i (fun l => { l with
        state := .held, allocatedAt := s.clock.msTime, age := 0, ageRuns := false, contributors := l.drainContributors
        drainContributors := 0, redirty := false }) (fun _ => rfl) b).le
    · exact (handFault s _).trans ((freed _).trans (afterFreeing _ l.bank))

theorem routeZero (report : Report) : PowerSteps s (s.routeZero report) := by
  have advance : ∀ (u : State) (b : BankNo), u.clear.queue.head? = some b → PowerSteps u (u.advanceClear b) := by
    intro u b hb
    unfold State.advanceClear
    split
    · exact kept {}
    · exact .single (.endClear b hb)
  unfold State.routeZero
  split
  · split
    · exact .refl
    next b hb =>
      cases report with
      | ok =>
        exact .trans (kept (t := { s with clear := { s.clear with outstanding := false } }) {}) (advance _ b hb)
      | error =>
        have failed : BanksKept s (s.clearFailed b) := (handFault s _).trans {}
        refine .trans (kept (failed.trans
          (u := { s.clearFailed b with clear := { (s.clearFailed b).clear with outstanding := false } }) {}))
          (advance _ b ?_)
        exact (congrArg List.head? failed.queue).trans hb
  · exact .refl

theorem complete (op : InFlight) (report : Report) (data : Vector Word 8) :
    PowerSteps s ((s.endOperation op.bank).route op report data) := by
  refine .trans (kept (endOperation s op.bank)) ?_
  unfold State.route
  split
  · exact kept (routeWord _ report data)
  · exact kept (routeLine _ _ report)
  · exact routeZero _ report

theorem tellTimeout (op : InFlight) : BanksKept s (s.tellTimeout op) := by
  unfold State.tellTimeout
  split
  · exact {}
  next i _ =>
    split
    · exact .of_banks rfl rfl fun b => (s.store.onLine_lineCount i
        (fun l => { l with state := .held, drainContributors := 0, redirty := false }) (fun _ => rfl) b).le
    · exact {}
  · exact {}

theorem timeOut (op : InFlight) : PowerSteps s (s.timeOut op) :=
  .trans (kept ((endOperation s op.bank).trans (tellTimeout _ op)))
    (.tail (.single (.makeStuck op.bank)) (.kept (handFault _ _)))

theorem flushEvery : PowerSteps s s.flushEvery := by
  refine foldl (fun t b => ?_) _ s
  split
  · exact addCause t b _
  · exact .refl

theorem warn : PowerSteps s (s.driveSupwarn true).enterWarn :=
  .trans (kept (t := { s.driveSupwarn true with mode := .warn }) {}) (foldl (fun t b => addCause t b _) _ _)

theorem leaveWarn : BanksKept s (s.driveSupwarn false).leaveWarn := by
  unfold State.leaveWarn
  split <;> exact {}

theorem removeHead : BanksKept s s.endFrame.removeHead := by
  unfold State.removeHead
  split
  · exact {}
  next r rest _ =>
    exact .trans (t := { s.endFrame with faults := { s.endFrame.faults with records := rest } }) {} (judgeHold _ _)

theorem clearUnlogged (b : BankNo) : BanksKept s (s.clearUnlogged b) := by
  unfold State.clearUnlogged
  dsimp only
  exact .trans {} (judgeHold _ b)

/-- DISCARD lowers a STUCK bank that has given up its lines (R94). -/
theorem discardBank (b : BankNo) (h : (s.bankState b).isStuck = true) : PowerSteps s (s.discardBank b) := by
  rw [discardBank_eq]
  have record : BanksKept s (discarded s (s.store.discard b) b) := by
    unfold discarded
    exact .trans (t := { s with store := s.store.discard b }) (.of_banks rfl rfl (s.store.discard_lineCount_le b))
      ((afterFreeing _ b).trans ((handFault _ _).trans
        (.of_record (f := fun k => { k with lost := true }) (fun _ => rfl) fun _ => id)))
  refine .tail (kept record) (.descend b .off ?_ fun _ => ?_)
  · rw [record.state]
    cases hb : s.bankState b with
    | stuck o => rfl
    | _ => rw [hb] at h; cases h
  · rw [State.lineCount, discarded_store, s.store.discard_lineCount]

theorem refitted (v : BitVec 16) (h : s.mayRefit = true) : PowerSteps s ((s.setTickDiv v).refit v) :=
  .tail (kept (t := s.setTickDiv v) {}) (.refit v h)

end PowerSteps

/-! ## Events that leave power control as it stands -/

namespace PowerStill

theorem trans {s t u : State} (h : PowerStill s t) (h' : PowerStill t u) : PowerStill s u :=
  ⟨h.toBanksKept.trans h'.toBanksKept, h'.timers ∘ h.timers⟩

/-- The conditions of the timers stand, and each timer runs as it did. -/
theorem of_conditions {s t : State} (h : BanksKept s t)
    (hi : ∀ b : BankNo, t.banks[b].idleTimer.isRunning = s.banks[b].idleTimer.isRunning)
    (ho : ∀ b : BankNo, t.banks[b].offTimer.isRunning = s.banks[b].offTimer.isRunning)
    (hc : ∀ b, t.idleConditions b = s.idleConditions b ∧ t.offConditions b = s.offConditions b) : PowerStill s t where
  toBanksKept := h
  timers := fun x b => by
    obtain ⟨idle, off⟩ := x b
    rw [hi, ho, (hc b).1, (hc b).2]
    exact ⟨idle, off⟩

/-- The conditions of the timers ask of the banks' records their states alone (R82, R84). -/
theorem conditions_of_state {s : State} {banks : Vector BankRecord 8} {b : BankNo}
    (h : banks[b].state = s.banks[b].state) : State.idleConditions { s with banks := banks } b = s.idleConditions b ∧
      State.offConditions { s with banks := banks } b = s.offConditions b := by
  unfold State.idleConditions State.offConditions State.bankState
  rw [h]
  exact ⟨rfl, rfl⟩

/-- One record changes in what no timer asks for. -/
theorem setBank {s : State} {b : BankNo} {f : BankRecord → BankRecord}
    (hs : ∀ k, (f k).state = k.state ∧ (f k).idleTimer = k.idleTimer ∧ (f k).offTimer = k.offTimer)
    (hh : s.HandshakeOf b → (s.setBank b f).HandshakeOf b) : PowerStill s (s.setBank b f) := by
  have record : ∀ c : BankNo, (s.setBank b f).banks[c].state = s.banks[c].state ∧
      (s.setBank b f).banks[c].idleTimer = s.banks[c].idleTimer ∧
      (s.setBank b f).banks[c].offTimer = s.banks[c].offTimer := by
    intro c
    by_cases e : b = c
    · subst e
      rw [State.setBank_same]
      exact hs _
    · rw [State.setBank_other _ _ e]
      exact ⟨rfl, rfl, rfl⟩
  choose state idle off using record
  obtain ⟨own, ownIdle, ownOff⟩ := hs s.banks[b]
  exact of_conditions (.setBank own hh (by rw [ownIdle]; exact id) ownOff) (fun c => by rw [idle]) (fun c => by rw [off])
    fun c => conditions_of_state (state c)

theorem pendWake (s : State) (b : BankNo) : PowerStill s (s.setBank b fun k => { k with pendingWake := true }) :=
  setBank (f := fun k => { k with pendingWake := true }) (fun _ => ⟨rfl, rfl, rfl⟩)
    ((BanksKept.of_record (f := fun k => { k with pendingWake := true }) (fun _ => rfl) fun _ => id).handshake b)

theorem unlost (s : State) (b : BankNo) : PowerStill s (s.setBank b fun k => { k with lost := false }) :=
  setBank (f := fun k => { k with lost := false }) (fun _ => ⟨rfl, rfl, rfl⟩)
    ((BanksKept.of_record (f := fun k => { k with lost := false }) (fun _ => rfl) fun _ => id).handshake b)

/-- A bank's lines are read into its record, which then agrees with them where it did. -/
theorem sampled (s : State) (b : BankNo) (level : StatusLevel) (settled : Bool)
    (h : s.HandshakeOf b → ((s.drive b level settled).sampleLines b).HandshakeOf b) :
    PowerStill s ((s.drive b level settled).sampleLines b) :=
  .trans (t := s.drive b level settled) {} (setBank (fun _ => ⟨rfl, rfl, rfl⟩) h)

theorem count_isRunning (t : Timer) : t.count.isRunning = t.isRunning := by cases t <;> rfl

/-- Timers of one kind count a step of their counter: they run on (R197). -/
theorem countBanks (s : State) {f : BankRecord → BankRecord}
    (hf : ∀ k : BankRecord, f k =
      { k with settleTimer := (f k).settleTimer, idleTimer := (f k).idleTimer, offTimer := (f k).offTimer })
    (hr : ∀ k : BankRecord, (f k).settleTimer.isRunning = k.settleTimer.isRunning ∧
      (f k).idleTimer.isRunning = k.idleTimer.isRunning ∧ (f k).offTimer.isRunning = k.offTimer.isRunning) :
    PowerStill s (s.countBanks f) := by
  have record : ∀ b : BankNo, (s.countBanks f).banks[b] = f s.banks[b] := fun b => mapAll_self s.banks f b
  choose settleRuns idleRuns offRuns using hr
  have state : ∀ b : BankNo, (s.countBanks f).banks[b].state = s.banks[b].state := fun b => by rw [record, hf]
  have idle : ∀ b : BankNo, (s.countBanks f).banks[b].idleTimer.isRunning = s.banks[b].idleTimer.isRunning :=
    fun b => by rw [record, idleRuns]
  have off : ∀ b : BankNo, (s.countBanks f).banks[b].offTimer.isRunning = s.banks[b].offTimer.isRunning :=
    fun b => by rw [record, offRuns]
  refine of_conditions ⟨state, fun b h => ?_, fun b => by rw [idle]; exact id, fun b => by rw [off]; exact id, rfl, rfl,
    fun _ => le_rfl⟩ idle off fun b => conditions_of_state (state b)
  have settle := settleRuns s.banks[b]
  unfold State.HandshakeOf State.bankState at *
  rw [record, hf]
  dsimp only [BankRecord.atRequest]
  rw [settle]
  exact h

/-- The lines of the store age, each in its slot. -/
theorem aged {s : State} {st : LineStore} (h : ∀ b, st.lineCount b = s.lineCount b) (clock : Timebase) :
    PowerStill s { s with store := st, clock := clock } := by
  refine of_conditions (.of_banks rfl rfl fun b => (h b).le) (fun _ => rfl) (fun _ => rfl) fun b => ⟨rfl, ?_⟩
  have lines : State.lineCount { s with store := st, clock := clock } b = s.lineCount b := h b
  unfold State.offConditions
  rw [lines]
  rfl

theorem milliStep (s : State) : PowerStill s s.milliStep := by
  have lines : ∀ b, s.store.ageAll.lineCount b = s.lineCount b := s.store.ageAll_lineCount
  unfold State.milliStep
  generalize s.store.ageAll = st at lines
  dsimp only
  split
  · exact aged lines _
  · exact (aged lines _).trans (countBanks (f := fun k => { k with offTimer := k.offTimer.count }) _ (fun _ => rfl)
      fun k => ⟨rfl, rfl, count_isRunning k.offTimer⟩)

/-- A CLK cycle moves counters and counts of timers alone (R196, R197). -/
theorem clockCycle (s : State) : PowerStill s s.clockCycle := by
  have access : ∀ u : State, PowerStill u u.tickAccess := fun u => by
    unfold State.tickAccess
    split
    next op h =>
      have flight : ∀ b, State.inFlightFor { u with
          port := { u.port with inFlight := some { op with accessTimer := op.accessTimer.count } } } b =
            u.inFlightFor b := fun b => by
        simp only [State.inFlightFor, h]
      refine of_conditions {} (fun _ => rfl) (fun _ => rfl) fun b => ⟨?_, rfl⟩
      unfold State.idleConditions
      rw [flight]
      rfl
    · exact {}
  have settle : ∀ u : State, PowerStill u u.tickSettle := fun u => by
    unfold State.tickSettle
    split
    · exact {}
    · exact .trans (t := { u with clock := { u.clock with tenMicro := 0 } }) {}
        (countBanks (f := fun k => { k with settleTimer := k.settleTimer.count }) _ (fun _ => rfl)
          fun k => ⟨count_isRunning k.settleTimer, rfl, rfl⟩)
  have idle : ∀ u : State, PowerStill u u.tickIdle := fun u => by
    unfold State.tickIdle
    split
    · exact {}
    · exact .trans (t := { u with clock := { u.clock with hundred := 0 } }) {}
        (countBanks (f := fun k => { k with idleTimer := k.idleTimer.count }) _ (fun _ => rfl)
          fun k => ⟨rfl, count_isRunning k.idleTimer, rfl⟩)
  have milli : ∀ u : State, PowerStill u u.tickMilli := fun u => by
    unfold State.tickMilli
    split
    · exact {}
    · exact .trans (t := { u with clock := { u.clock with milli := 0 } }) {} (milliStep _)
  unfold State.clockCycle
  split
  · exact {}
  · exact .trans (t := { s with clock := { s.clock with divider := 0 } }) {}
      ((access _).trans ((settle _).trans ((idle _).trans (milli _))))

end PowerStill
end Sys2Proof.Machine

/-! Every command, as power control sees it. -/

namespace Sys2Proof.Machine

namespace PowerEvent

/-- A command that power control takes no notice of, and its reply. -/
theorem reply (s : State) (n : Nat) (status : MgmtStatus) (results : List Byte) : PowerEvent s (s.reply n status results) :=
  .replied unchanged n status results

theorem order (s : State) (bank : Byte) {action : BankNo → State} (h : ∀ b, PowerEvent s (action b)) :
    Yields (PowerEvent s) (s.onFrame (.next (s.order bank action))) := by
  refine .onFrame unchanged (.next ?_)
  unfold State.order
  split
  · exact reply s ..
  · split
    · exact h _
    · exact reply s ..

theorem accept {s u : State} (h : PowerSteps s u) : PowerEvent s (s.accept u) := .replied (finish h s false) ..

theorem refusal (s : State) (status : MgmtStatus) : PowerEvent s (s.replyOrder status) := reply s ..

theorem orderWake (s : State) (b : BankNo) : PowerEvent s (s.orderWake b) := by
  unfold State.orderWake
  split
  next h => exact accept (.single (.wake b .off (.inl h)))
  next h => exact accept (.single (.wake b .retain (.inl h)))
  · exact .replied (.still (PowerStill.pendWake s b)) ..
  · split
    · exact accept (.kept (PowerSteps.holdAwake s b))
    · exact refusal s _
  all_goals exact refusal s _

theorem orderRetain (s : State) (b : BankNo) : PowerEvent s (s.orderRetain b) := by
  unfold State.orderRetain
  split
  · exact refusal s _
  next h =>
    have active : s.bankState b = .active := not_not.mp h
    iterate 2
      split
      · exact refusal s _
    exact accept (.single (.descend b .retain (by rw [active]; rfl) nofun))

theorem orderOff (s : State) (b : BankNo) : PowerEvent s (s.orderOff b) := by
  unfold State.orderOff
  split
  next h =>
    obtain ⟨awake, lines, -⟩ := h
    split
    · exact refusal s _
    · refine accept (.single (.descend b .off ?_ fun _ => lines))
      rcases awake with e | e <;> rw [e] <;> rfl
  · exact refusal s _

theorem orderRetry (s : State) (b : BankNo) : PowerEvent s (s.orderRetry b) := by
  unfold State.orderRetry
  split
  next o h => exact accept (.single (.wake b o (.inr h)))
  all_goals exact refusal s _

theorem orderDiscard (s : State) (b : BankNo) : PowerEvent s (s.orderDiscard b) := by
  unfold State.orderDiscard
  split
  next h => exact accept (PowerSteps.discardBank s b h)
  · exact refusal s _

theorem orderClear (s : State) (b : BankNo) : PowerEvent s (s.orderClear b) := by
  unfold State.orderClear
  split
  · exact refusal s _
  next h =>
    have lines : s.lineCount b = 0 := not_not.mp fun x => h (.inl x)
    have pending : PowerSteps s (s.setClearPending b true) := .single (.pendClear b lines)
    split
    next hb => exact accept (.single (.enterClearing b hb lines))
    next hb => exact accept (.tail pending (.wake b .off (.inl hb)))
    next hb => exact accept (.tail pending (.wake b .retain (.inl hb)))
    all_goals exact refusal s _

theorem orderUnlost (s : State) (b : BankNo) : PowerEvent s (s.orderUnlost b) := by
  unfold State.orderUnlost
  split
  · exact refusal s _
  · exact .replied (.still (PowerStill.unlost s b)) ..

/-! ### The banks -/

/-- A bank whose lines do not settle its transition agrees with them after they are read, and so does a STUCK bank. -/
theorem sampled_handshake (s : State) (b : BankNo) (level : StatusLevel) (settled : Bool)
    (h : (s.bankState b).isStuck = true ∨ ((s.bankState b).inTransition = true ∧
      ((s.drive b level settled).sampleLines b).banks[b].atRequest = false)) :
    s.HandshakeOf b → ((s.drive b level settled).sampleLines b).HandshakeOf b := by
  have record := drive_sampled s b level settled
  unfold State.HandshakeOf State.bankState at *
  generalize ((s.drive b level settled).sampleLines b).banks[b] = k at *
  subst record
  dsimp only
  cases hb : s.banks[b].state with
  | stuck o => exact id
  | waking o =>
    rcases h with h | ⟨-, hn⟩
    · rw [hb] at h
      cases h
    · exact fun ⟨request, _, timer⟩ => ⟨request, hn, timer⟩
  | descending o =>
    rcases h with h | ⟨-, hn⟩
    · rw [hb] at h
      cases h
    · exact fun ⟨request, _, timer⟩ => ⟨request, hn, timer⟩
  | _ =>
    rw [hb] at h
    rcases h with h | ⟨h, -⟩ <;> cases h

/-- A change of a settled bank's lines that is not unsolicited leaves its record (R76). -/
theorem solicited_handshake (s : State) (b : BankNo) (level : StatusLevel) (settled : Bool)
    (ht : (s.bankState b).inTransition = false) (h : (s.drive b level settled).unsolicited b = false) :
    s.HandshakeOf b → ((s.drive b level settled).sampleLines b).HandshakeOf b := by
  have record := drive_sampled s b level settled
  rw [drive_unsolicited, Bool.or_eq_false_iff, bne_eq_false_iff_eq] at h
  obtain ⟨same, held⟩ := h
  intro hs
  by_cases stuck : (s.bankState b).isStuck = true
  · exact sampled_handshake s b level settled (.inl stuck) hs
  · have settledNow : s.banks[b].settled = true := by
      unfold State.HandshakeOf at hs
      have settled_of : s.banks[b].atRequest = true → s.banks[b].settled = true := fun h =>
        (Bool.and_eq_true_iff.mp h).1
      cases hb : s.bankState b with
      | waking o => rw [hb] at ht; cases ht
      | descending o => rw [hb] at ht; cases ht
      | stuck o => rw [hb] at stuck; exact absurd rfl stuck
      | _ =>
        rw [hb] at hs
        obtain ⟨-, settledAt, -⟩ := hs
        exact settled_of settledAt
    refine handshake_congr ?_ hs
    rw [settledNow, Bool.true_and, Bool.not_eq_false'] at held
    rw [record, same, held, ← settledNow]

theorem lineChange (s : State) (b : BankNo) (level : StatusLevel) (settled : Bool) (hf : s.fitted b = true) :
    PowerEvent s ((s.drive b level settled).lineChange s b) := by
  have sampled := fun h => PowerEvent.still (PowerStill.sampled s b level settled (sampled_handshake s b level settled h))
  have changed : (s.bankState b).inTransition = false → (s.bankState b).isStuck = false →
      PowerEvent s ((s.drive b level settled).settledChange s b) := by
    intro ht hs
    unfold State.settledChange
    split
    · exact finish (.tail (.single (.unsolicited b level settled hf hs)) (.kept (PowerSteps.handFault _ _))) s false
    next h =>
      exact .still (PowerStill.sampled s b level settled
        (solicited_handshake s b level settled ht (Bool.eq_false_iff.mpr h)))
  cases hb : s.bankState b with
  | waking o =>
    have same : (s.drive b level settled).bankState b = .waking o := hb
    simp only [State.lineChange, same]
    split
    next ha => exact finish (.single (.settleWaking b level settled o hb ha)) s false
    next ha => exact sampled (.inr ⟨by rw [hb]; rfl, Bool.eq_false_iff.mpr ha⟩)
  | descending o =>
    have same : (s.drive b level settled).bankState b = .descending o := hb
    simp only [State.lineChange, same]
    split
    next ha => exact finish (.single (.settleDescending b level settled o hb ha)) s false
    next ha => exact sampled (.inr ⟨by rw [hb]; rfl, Bool.eq_false_iff.mpr ha⟩)
  | stuck o =>
    have same : (s.drive b level settled).bankState b = .stuck o := hb
    simp only [State.lineChange, same]
    exact sampled (.inl (by rw [hb]; rfl))
  | _ =>
    rw [hb] at changed
    rw [lineChange_settled (by rw [State.bankState]; exact congrArg _ hb) (by rw [State.bankState]; exact congrArg _ hb)]
    exact changed rfl rfl

theorem idleTimerExpiry (b : BankNo) (s : State) : Yields (PowerEvent s) (execIdleTimerExpiry b s) := by
  refine .cond (fun h => .next (finish (.single (.descend b .retain ?_ nofun)) s false)) fun _ => .next unchanged
  obtain ⟨active, -⟩ := h
  rw [active]
  rfl

theorem offTimerExpiry (b : BankNo) (s : State) : Yields (PowerEvent s) (execOffTimerExpiry b s) :=
  .cond (fun ⟨hb, hr⟩ => .next (.offExpired b hb hr ((PowerSteps.untilGrant _ s false).trans (PowerSteps.grant _)) s))
    fun _ => .next unchanged

/-! ### The ports and the level inputs -/

theorem requestTaken (r : Request) (s : State) : Yields (PowerEvent s) (execRequestTaken r s) := by
  unfold execRequestTaken
  split
  · exact .cond (fun _ => .next (finish (PowerSteps.takeRequest s r) s false)) fun _ => .next unchanged
  · exact .fault _

theorem completion (number : BitVec 8) (report : Report) (data : Vector Word 8) (s : State) :
    Yields (PowerEvent s) (execCompletion number report data s) := by
  have late : PowerEvent s s.lateCompletion := .still {}
  unfold execCompletion
  split
  next op _ =>
    exact .cond (fun _ => .next (finishCompletion (PowerSteps.complete s op report data) s _)) fun _ => .next late
  · exact .next late

theorem accessTimeout (s : State) : Yields (PowerEvent s) (execAccessTimeout s) := by
  unfold execAccessTimeout
  split
  next op _ => exact .next (finish (PowerSteps.timeOut s op) s _)
  · exact .next unchanged

/-! ### Registers and reports -/

theorem writeInRange {s : State} {c : Bool} {effect : State → State} (h : PowerEvent s (effect s)) :
    PowerEvent s (s.writeInRange c effect) := by
  unfold State.writeInRange
  split
  · exact h.replied ..
  · exact reply s ..

theorem writeConfig (s : State) (v : BitVec 16) : PowerEvent s (s.writeConfig v) := by
  unfold State.writeConfig
  split
  · split
    · exact .replied (.still (t := s.setTickDiv v) {}) ..
    · split
      next h => exact .replied (finish (PowerSteps.refitted s v h) s false) ..
      · exact reply s ..
  · exact reply s ..

theorem counterHighRead (number : Byte) (s : State) : Yields (PowerEvent s) (execCounterHighRead number s) := by
  have captured : ∀ r : Register, PowerStill s (s.captureLow r) := fun r => by cases r <;> exact {}
  refine .onFrame unchanged ?_
  split
  · exact .next (reply s ..)
  next r _ => exact .next (.replied (.still (captured r)) ..)

theorem regWrite (number : Byte) (v : BitVec 16) (s : State) : Yields (PowerEvent s) (execRegWrite number v s) := by
  refine .onFrame unchanged ?_
  split
  · exact .next (reply s ..)
  iterate 2 exact .next (writeInRange (.still {}))
  iterate 9 exact .next (reply s ..)
  · exact .next (writeConfig s v)
  iterate 2 exact .next (writeInRange (finish (.kept {}) ..))
  iterate 3 exact .next (writeInRange (.still {}))
  iterate 2 exact .next (writeInRange (.policy ..))

theorem regionWrite (entry flags : Byte) (base limit : BitVec 24) (initiators : Byte) (s : State) :
    Yields (PowerEvent s) (execRegionWrite entry flags base limit initiators s) := by
  refine .onFrame unchanged ?_
  split
  · refine .next ?_
    unfold State.writeRegion
    split
    · exact .replied (finish (.kept {}) ..) ..
    · exact reply s ..
  · exact .next (reply s ..)

theorem faultPopRemoval (shifted : Nat) (s : State) : Yields (PowerEvent s) (execFaultPopRemoval shifted s) := by
  have left : PowerEvent s s.endFrame := .still {}
  unfold execFaultPopRemoval
  split
  · exact .next left
  · exact .cond (fun _ => .next (finish (.kept (PowerSteps.removeHead s)) s false)) fun _ => .next left

theorem flush (bank : Byte) (s : State) : Yields (PowerEvent s) (execFlush bank s) := by
  refine .onFrame unchanged ?_
  split
  · exact .next (reply s ..)
  next b _ =>
    refine .next ?_
    unfold State.orderFlush
    split
    · exact reply s ..
    · split
      · exact reply s ..
      · exact .replied (finish (PowerSteps.addCause s b _) s false) ..

theorem clearUnlogged (bank : Byte) (s : State) : Yields (PowerEvent s) (execClearUnlogged bank s) := by
  refine .onFrame unchanged ?_
  split
  · exact .next (reply s ..)
  next b _ => exact .next (.replied (finish (.kept (PowerSteps.clearUnlogged s b)) s false) ..)

end PowerEvent

open PowerEvent (unchanged finish reply writeInRange) in
/-- What each command does to power control. -/
theorem exec_powerEvent {c : Instr} {s t : State} (h : exec c s = .next t) : PowerEvent s t := by
  suffices hy : Yields (PowerEvent s) (exec c s) from hy t h
  have same : Yields (PowerEvent s) (.next s) := .next unchanged
  have replies : ∀ (n : Nat) (status : MgmtStatus) (results : List Byte),
      Yields (PowerEvent s) (.next (s.reply n status results)) := fun n status results => .next (reply s n status results)
  have framed : ∀ {u : State}, PowerEvent s u → Yields (PowerEvent s) (s.onFrame (.next u)) := fun hu =>
    .onFrame unchanged (.next hu)
  cases c with
  | requestTaken r => exact PowerEvent.requestTaken r s
  | completion number report data => exact PowerEvent.completion number report data s
  | accessTimeout => exact PowerEvent.accessTimeout s
  | settleTimeout b => exact .cond (fun _ => .next (finish (PowerSteps.failBank s b _) s false)) fun _ => same
  | statusLineChange b level settled =>
    exact .cond (fun hf => .next (.lineChange s b level settled hf)) fun _ => .next (.still {})
  | idleTimerExpiry b => exact PowerEvent.idleTimerExpiry b s
  | offTimerExpiry b => exact PowerEvent.offTimerExpiry b s
  | ageExpiry b => exact .cond (fun _ => .next (finish (PowerSteps.addCause s b _) s false)) fun _ => same
  | supwarnAssertion => exact .cond (fun _ => same) fun _ => .next (finish (PowerSteps.warn s) s false)
  | supwarnNegation => exact .cond (fun _ => .next (finish (.kept (PowerSteps.leaveWarn s)) s false)) fun _ => same
  | fltpassAssertion => exact .cond (fun _ => same) fun _ => .next (finish (.kept {}) s true)
  | fltpassNegation => exact .cond (fun _ => .next (finish (.kept {}) s true)) fun _ => same
  | resetnAssertion => exact .cond (fun _ => same) fun _ => .next (finish (.single .warmReset) s false)
  | resetnNegation => exact .cond (fun _ => .next (finish (.kept {}) s false)) fun _ => same
  | powerOnReset => exact fun t ht => .powerOnReset ht
  | invalidCommand frame =>
    exact .cond (fun _ => framed (reply s ..)) fun _ => .cond (fun _ => framed (.still {})) fun _ => .fault _
  | status => exact framed (reply s ..)
  | counterHighRead number => exact PowerEvent.counterHighRead number s
  | regWrite number v => exact PowerEvent.regWrite number v s
  | configWrite v => exact framed (.writeConfig s v)
  | hwmWrite v => exact framed (writeInRange (finish (.kept {}) s false))
  | ageLimitWrite v => exact framed (writeInRange (finish (.kept {}) s false))
  | irqStatusWrite v => exact framed (writeInRange (.still {}))
  | irqEnableWrite v => exact framed (writeInRange (.still {}))
  | resetRecordWrite v => exact framed (writeInRange (.still {}))
  | bankPolicyAWrite b v => exact framed (writeInRange (.policy ..))
  | bankPolicyBWrite b v => exact framed (writeInRange (.policy ..))
  | regionRead entry => exact .onFrame unchanged (by split <;> exact replies _ _ _)
  | regionWrite entry flags base limit initiators => exact PowerEvent.regionWrite entry flags base limit initiators s
  | slotRead slot => exact .onFrame unchanged (by split <;> exact replies _ _ _)
  | wakeOrder bank => exact .order s bank (.orderWake s)
  | retainOrder bank => exact .order s bank (.orderRetain s)
  | offOrder bank => exact .order s bank (.orderOff s)
  | retryOrder bank => exact .order s bank (.orderRetry s)
  | discardOrder bank => exact .order s bank (.orderDiscard s)
  | clearOrder bank => exact .order s bank (.orderClear s)
  | unlostOrder bank => exact .order s bank (.orderUnlost s)
  | flush bank => exact PowerEvent.flush bank s
  | flushAll => exact framed (.replied (finish (PowerSteps.flushEvery s) s false) ..)
  | faultPeek => exact .onFrame unchanged (by split <;> exact replies _ _ _)
  | faultPop =>
    refine .onFrame unchanged ?_
    split
    · exact replies _ _ _
    · exact .next (.still {})
  | faultPopRemoval shifted => exact PowerEvent.faultPopRemoval shifted s
  | clearUnlogged bank => exact PowerEvent.clearUnlogged bank s
  | millisecondCounterStep => exact .next (.still (PowerStill.milliStep s))

/-- A step is a command carried out on the state with some queue of waiting commands, or one CLK cycle. -/
theorem step_powerEvent {s t : State} (h : step s = .next t) : ∃ rest, PowerEvent { s with pending := rest } t := by
  unfold step at h
  split at h
  next hp =>
    unfold idle at h
    split at h
    · exact ⟨s.pending, exec_powerEvent h⟩
    · injection h with h
      exact ⟨s.pending, h ▸ .still (PowerStill.clockCycle s)⟩
  next rest _ => exact ⟨rest, exec_powerEvent h⟩

end Sys2Proof.Machine

/-! What a change of BANKS FITTED does to the banks (R98, R96). -/

namespace Sys2Proof.Machine

/-- What is pending once a bank has become STUCK was pending before: its own clear is withdrawn (R146). -/
theorem abandonClear_wanted (s : State) (b c : BankNo) (h : (s.abandonClear b).clear.wanted[c] = true) :
    s.clear.wanted[c] = true := by
  have wanted : (s.abandonClear b).clear.wanted = updAt s.clear.wanted b fun _ => false := by
    unfold State.abandonClear
    dsimp only
    split <;> rfl
  rw [wanted] at h
  by_cases e : b = c
  · subst e
    rw [updAt_self] at h
    cases h
  · rwa [updAt_ne _ _ e] at h

theorem makeStuck_wanted (s : State) (b c : BankNo) (h : (s.makeStuck b).clear.wanted[c] = true) :
    s.clear.wanted[c] = true := by
  unfold State.makeStuck at h
  split at h
  · exact abandonClear_wanted (s.setBank b _) b c h
  · exact h

theorem failBank_bank (s : State) (b c : BankNo) (kind : FaultKind) :
    (s.failBank b kind).banks[c] = (s.makeStuck b).banks[c] := by
  unfold State.failBank
  simp only [State.handFault_banks]

/-- A bank that is read at rest changes no other. -/
theorem sampleAtRest_other (s : State) {b c : BankNo} (e : b ≠ c) : (s.sampleAtRest b).banks[c] = s.banks[c] := by
  unfold State.sampleAtRest
  dsimp only
  split
  · exact State.setBank_other _ _ e
  · rw [failBank_bank, State.makeStuck_other _ e]
    exact State.setBank_other _ _ e

/-- Whether a reset bank settles at OFF is read from its lines. -/
theorem sampledReset_atRequest (s : State) (b : BankNo) :
    ((s.setBank b fun _ => BankRecord.reset).sampleLines b).banks[b].atRequest = restsAtOff s b := by
  rw [State.sampleLines, State.setBank_same, State.setBank_same]
  rfl

/-- A newly fitted bank is OFF, or STUCK where its lines do not report settled at OFF (R98, R96). -/
theorem fitted_bank {s : State} {b : BankNo} (hf : s.fitted b = true) :
    ((s.setBank b fun _ => BankRecord.reset).sampleAtRest b).banks[b] = sampledRecord s b := by
  have read : ((s.setBank b fun _ => BankRecord.reset).sampleLines b).banks[b] =
      { BankRecord.reset with reported := s.pins.pstat[b], settled := s.pins.pset[b] } := by
    rw [State.sampleLines, State.setBank_same, State.setBank_same]
    rfl
  have settled := sampledReset_atRequest s b
  unfold State.sampleAtRest
  dsimp only
  split
  next h =>
    rw [read, sampledRecord, if_pos (settled.symm.trans h)]
    rfl
  next h =>
    have state : ((s.setBank b fun _ => BankRecord.reset).sampleLines b).bankState b = .off := by
      rw [State.bankState, read]
      rfl
    have stuck := State.makeStuck_bank ((s.setBank b fun _ => BankRecord.reset).sampleLines b) b hf (by rw [state]; rfl)
    rw [failBank_bank, stuck, read, state, sampledRecord, if_neg (settled ▸ h)]
    rfl

theorem fitBank_regs (old new : Nat) (s : State) (b : BankNo) : (s.fitBank old new b).regs = s.regs := by
  unfold State.fitBank
  split
  · rw [State.sampleAtRest_regs, State.setBank_regs]
  · rfl

theorem fitBank_pins (old new : Nat) (s : State) (b : BankNo) : (s.fitBank old new b).pins = s.pins := by
  unfold State.fitBank
  split
  · rw [State.sampleAtRest_pins, State.setBank_pins]
  · rfl

theorem fitBank_other (old new : Nat) (s : State) {b c : BankNo} (e : b ≠ c) :
    (s.fitBank old new b).banks[c] = s.banks[c] := by
  unfold State.fitBank
  split
  · rw [sampleAtRest_other _ e, State.setBank_other _ _ e]
  · rfl

theorem fitBank_bank {s : State} {old : Nat} (b : BankNo) :
    (s.fitBank old s.regs.banksFitted.toNat b).banks[b] =
      if old ≤ b.val ∧ b.val < s.regs.banksFitted.toNat then sampledRecord s b else s.banks[b] := by
  by_cases h : old ≤ b.val ∧ b.val < s.regs.banksFitted.toNat
  · have fits : (decide (old ≤ b.val) && decide (b.val < s.regs.banksFitted.toNat)) = true := by simpa using h
    rw [if_pos h, State.fitBank, if_pos fits]
    exact fitted_bank (decide_eq_true h.2)
  · have keeps : ¬(decide (old ≤ b.val) && decide (b.val < s.regs.banksFitted.toNat)) = true := by simpa using h
    rw [if_neg h, State.fitBank, if_neg keeps]

theorem sampledRecord_congr {s t : State} (h : t.pins = s.pins) (b : BankNo) : sampledRecord t b = sampledRecord s b := by
  rw [sampledRecord, sampledRecord, restsAtOff, restsAtOff, h]

/-- What a refit makes of each bank, seen through `view`: `fit` where the bank becomes fitted, which other banks' fittings do not
bear on. -/
theorem refit_listed {α : Type} {view fit : State → BankNo → α}
    (hs : ∀ (old : Nat) (t : State) (b : BankNo), view (t.fitBank old t.regs.banksFitted.toNat b) b =
      if old ≤ b.val ∧ b.val < t.regs.banksFitted.toNat then fit t b else view t b)
    (ho : ∀ (old new : Nat) (t : State) (a b : BankNo), a ≠ b →
      view (t.fitBank old new a) b = view t b ∧ fit (t.fitBank old new a) b = fit t b)
    (banks : List BankNo) (hn : banks.Nodup) (s : State) (old : Nat) (b : BankNo) :
    view (banks.foldl (State.fitBank old s.regs.banksFitted.toNat) s) b =
      if b ∈ banks ∧ old ≤ b.val ∧ b.val < s.regs.banksFitted.toNat then fit s b else view s b := by
  induction banks generalizing s with
  | nil => simp
  | cons a rest ih =>
    obtain ⟨notin, nodup⟩ := List.nodup_cons.1 hn
    have tail := ih nodup (s.fitBank old s.regs.banksFitted.toNat a)
    rw [fitBank_regs] at tail
    rw [List.foldl_cons, tail]
    by_cases e : a = b
    · subst e
      rw [if_neg fun h => notin h.1, hs]
      simp only [List.mem_cons_self, true_and]
    · have listed : b ∈ a :: rest ↔ b ∈ rest := by simp [Ne.symm e]
      obtain ⟨kept, same⟩ := ho old s.regs.banksFitted.toNat s a b e
      rw [kept, same]
      simp only [listed]

theorem refit_view {α : Type} {view fit : State → BankNo → α}
    (hs : ∀ (old : Nat) (t : State) (b : BankNo), view (t.fitBank old t.regs.banksFitted.toNat b) b =
      if old ≤ b.val ∧ b.val < t.regs.banksFitted.toNat then fit t b else view t b)
    (ho : ∀ (old new : Nat) (t : State) (a b : BankNo), a ≠ b →
      view (t.fitBank old new a) b = view t b ∧ fit (t.fitBank old new a) b = fit t b)
    (hr : ∀ (t : State) (r : Registers) (b : BankNo), view { t with regs := r } b = view t b ∧
      fit { t with regs := r } b = fit t b) (s : State) (v : BitVec 16) (b : BankNo) :
    view (s.refit v) b =
      if s.regs.banksFitted.toNat ≤ b.val ∧ b.val < (v.extractLsb' 0 4).toNat then fit s b else view s b := by
  have fold := refit_listed hs ho (List.finRange 8) (List.nodup_finRange 8)
    { s with regs := { s.regs with banksFitted := v.extractLsb' 0 4 } } s.regs.banksFitted.toNat b
  rw [(hr s _ b).1, (hr s _ b).2] at fold
  simp only [List.mem_finRange, true_and] at fold
  exact fold

/-- The banks that become fitted take their power-on values, the others keep their records (R98). -/
theorem refit_bank (s : State) (v : BitVec 16) (b : BankNo) :
    (s.refit v).banks[b] =
      if s.regs.banksFitted.toNat ≤ b.val ∧ b.val < (v.extractLsb' 0 4).toNat then sampledRecord s b else s.banks[b] :=
  refit_view (view := fun t b => t.banks[b]) (fit := sampledRecord) (fun _ _ b => fitBank_bank b)
    (fun old new t a b e => ⟨fitBank_other old new t e, sampledRecord_congr (fitBank_pins old new t a) b⟩)
    (fun _ _ _ => ⟨rfl, rfl⟩) s v b

/-- A newly fitted bank that is not settled at OFF has its fault hold set (R96, R158). -/
theorem sampleAtRest_hold (s : State) (b : BankNo) :
    ((s.setBank b fun _ => BankRecord.reset).sampleAtRest b).faults.hold =
      if restsAtOff s b then s.faults.hold else updAt s.faults.hold b fun _ => true := by
  have settled := sampledReset_atRequest s b
  unfold State.sampleAtRest
  dsimp only
  split
  next h => rw [if_pos (settled.symm.trans h), State.sampleLines_faults, State.setBank_faults]
  next h =>
    rw [if_neg (settled ▸ h), State.failBank, State.handFault_hold, State.makeStuck_faults]
    rfl

theorem fitBank_hold (old new : Nat) (s : State) (b : BankNo) : (s.fitBank old new b).faults.hold =
    if (old ≤ b.val ∧ b.val < new) ∧ restsAtOff s b = false then updAt s.faults.hold b fun _ => true else s.faults.hold := by
  unfold State.fitBank
  split
  next h =>
    have fits : old ≤ b.val ∧ b.val < new := by simpa using h
    rw [sampleAtRest_hold]
    cases restsAtOff s b with
    | true => simp
    | false => simp [fits]
  next h =>
    have keeps : ¬(old ≤ b.val ∧ b.val < new) := by simpa using h
    rw [if_neg fun x => keeps x.1]

/-- The fault holds of the banks that become fitted, and of the others (R98, R158). -/
theorem refit_hold (s : State) (v : BitVec 16) (b : BankNo) :
    (s.refit v).faults.hold[b] =
      if s.regs.banksFitted.toNat ≤ b.val ∧ b.val < (v.extractLsb' 0 4).toNat then !restsAtOff s b || s.faults.hold[b]
      else s.faults.hold[b] := by
  have own : ∀ (old : Nat) (t : State) (b : BankNo), (t.fitBank old t.regs.banksFitted.toNat b).faults.hold[b] =
      if old ≤ b.val ∧ b.val < t.regs.banksFitted.toNat then !restsAtOff t b || t.faults.hold[b] else t.faults.hold[b] := by
    intro old t b
    have hold := fitBank_hold old t.regs.banksFitted.toNat t b
    generalize (t.fitBank old t.regs.banksFitted.toNat b).faults.hold = holds at *
    subst hold
    by_cases fits : old ≤ b.val ∧ b.val < t.regs.banksFitted.toNat
    · cases rests : restsAtOff t b <;> simp [fits]
    · simp [fits]
  have other : ∀ (old new : Nat) (t : State) (a b : BankNo), a ≠ b →
      (t.fitBank old new a).faults.hold[b] = t.faults.hold[b] := by
    intro old new t a b e
    have hold := fitBank_hold old new t a
    generalize (t.fitBank old new a).faults.hold = holds at *
    subst hold
    split
    · exact updAt_ne _ _ e
    · rfl
  refine refit_view (view := fun t b => t.faults.hold[b]) (fit := fun t b => !restsAtOff t b || t.faults.hold[b]) own
    (fun old new t a b e => ⟨other old new t a b e, ?_⟩) (fun _ _ _ => ⟨rfl, rfl⟩) s v b
  rw [other old new t a b e, restsAtOff, restsAtOff, fitBank_pins]

/-- An empty clear queue stays so, and clears that are pending were (R87, R151). -/
theorem refit_clear (s : State) (v : BitVec 16) : (s.clear.queue = [] → (s.refit v).clear.queue = []) ∧
    ∀ b : BankNo, (s.refit v).clear.wanted[b] = true → s.clear.wanted[b] = true := by
  have stuck : ∀ (t : State) (b : BankNo), t.clear.queue = [] → (t.makeStuck b).clear.queue = [] := by
    intro t b h
    unfold State.makeStuck State.abandonClear
    split
    · simp [h]
    · exact h
  have fit : ∀ (old new : Nat) (t : State) (b : BankNo), (t.clear.queue = [] → (t.fitBank old new b).clear.queue = []) ∧
      ∀ c : BankNo, (t.fitBank old new b).clear.wanted[c] = true → t.clear.wanted[c] = true := by
    intro old new t b
    unfold State.fitBank State.sampleAtRest State.failBank
    split
    · dsimp only
      split
      · exact ⟨id, fun _ => id⟩
      · simp only [State.handFault_clear]
        exact ⟨fun h => stuck _ b h, fun c h => makeStuck_wanted ((t.setBank b _).sampleLines b) b c h⟩
    · exact ⟨id, fun _ => id⟩
  refine List.foldlRecOn (motive := fun t : State => (s.clear.queue = [] → t.clear.queue = []) ∧
    ∀ b : BankNo, t.clear.wanted[b] = true → s.clear.wanted[b] = true) (List.finRange 8) _ ⟨id, fun _ => id⟩ ?_
  intro t ⟨queue, wanted⟩ b _
  obtain ⟨queue', wanted'⟩ := fit s.regs.banksFitted.toNat (v.extractLsb' 0 4).toNat t b
  exact ⟨queue' ∘ queue, fun c h => wanted c (wanted' c h)⟩

end Sys2Proof.Machine

/-! The banks' states stay in agreement with their lines and settle timers, and the clear queue with the CLEARING banks (R73,
R74, R143, Table 4-2). -/

namespace Sys2Proof.Machine

/-- Every bank agrees with its lines, and the clear queue lists the CLEARING banks (R73, R143). -/
structure InAgreement (s : State) : Prop where
  handshake : ∀ b, s.HandshakeOf b
  exact : s.ClearQueueExact

/-- Every bank but one does so, whatever that one is. -/
structure OthersAgree (b : BankNo) (s : State) : Prop where
  handshake : ∀ c, b ≠ c → s.HandshakeOf c
  nodup : s.clear.queue.Nodup
  exact : ∀ c, b ≠ c → (c ∈ s.clear.queue ↔ (s.bankState c).isClearing = true)

theorem InAgreement.others {s : State} (h : InAgreement s) (b : BankNo) : OthersAgree b s :=
  ⟨fun c _ => h.handshake c, h.exact.1, fun c _ => h.exact.2 c⟩

/-- A bank that is not CLEARING is not in the clear queue. -/
theorem InAgreement.notQueued {s : State} (h : InAgreement s) {b : BankNo} (hb : (s.bankState b).isClearing = false) :
    b ∉ s.clear.queue := fun hm => by
  rw [h.exact.2 b, hb] at hm
  cases hm

namespace OthersAgree

variable {s t : State} {b : BankNo}

/-- The one bank, which is not in the clear queue, changes. -/
theorem congr (h : OthersAgree b s) (hb : ∀ c : BankNo, b ≠ c → t.banks[c] = s.banks[c])
    (hq : t.clear.queue = s.clear.queue) : OthersAgree b t where
  handshake := fun c e => handshake_congr (hb c e) (h.handshake c e)
  nodup := hq ▸ h.nodup
  exact := fun c e => by
    rw [hq, State.bankState, hb c e]
    exact h.exact c e

theorem setBank (h : OthersAgree b s) (f : BankRecord → BankRecord) : OthersAgree b (s.setBank b f) :=
  h.congr (fun _ e => State.setBank_other _ _ e) rfl

/-- The one bank agrees as well. -/
theorem whole (h : OthersAgree b s) (hh : s.HandshakeOf b) (hq : b ∈ s.clear.queue ↔ (s.bankState b).isClearing = true) :
    InAgreement s where
  handshake := fun c => by
    by_cases e : b = c
    · exact e ▸ hh
    · exact h.handshake c e
  exact := ⟨h.nodup, fun c => by
    by_cases e : b = c
    · exact e ▸ hq
    · exact h.exact c e⟩

theorem whole_unqueued (h : OthersAgree b s) (hh : s.HandshakeOf b) (hn : b ∉ s.clear.queue)
    (hc : (s.bankState b).isClearing = false) : InAgreement s :=
  h.whole hh (iff_of_false hn (by rw [hc]; nofun))

end OthersAgree

/-! ## A clear begins and ends, a bank becomes STUCK -/

namespace OthersAgree

variable {s : State} {b : BankNo} (h : OthersAgree b s)
include h

theorem enterClearing (hn : b ∉ s.clear.queue) (hr : s.banks[b].request = .active) (ha : s.banks[b].atRequest = true)
    (o : Rest) : InAgreement (s.enterClearing b o) := by
  have record : (s.enterClearing b o).banks[b] =
      { s.banks[b] with state := .clearing o, settleTimer := .stopped, idleTimer := .stopped } := by
    rw [State.enterClearing_banks, updAt_self]
  have other : ∀ c : BankNo, b ≠ c → (s.enterClearing b o).banks[c] = s.banks[c] := fun c e => updAt_ne _ _ e
  have queue : ∀ c, c ∈ (s.enterClearing b o).clear.queue ↔ c ∈ s.clear.queue ∨ c = b := fun c => by
    show c ∈ s.clear.queue ++ [b] ↔ _
    rw [List.mem_append, List.mem_singleton]
  have others : OthersAgree b (s.enterClearing b o) := by
    refine ⟨fun c e => handshake_congr (other c e) (h.handshake c e), ?_, fun c e => ?_⟩
    · exact List.Nodup.append h.nodup (List.nodup_singleton b) (by simpa using hn)
    · rw [queue, State.bankState, other c e, or_iff_left (Ne.symm e)]
      exact h.exact c e
  refine others.whole ?_ (iff_of_true ((queue b).2 (.inr rfl)) (by rw [State.bankState, record]; rfl))
  unfold State.HandshakeOf State.bankState
  rw [record]
  exact ⟨hr, ha, rfl⟩

/-- A bank that is settled at ACTIVE enters it (R80, R81). -/
theorem enterActive (hn : b ∉ s.clear.queue) (hr : s.banks[b].request = .active) (ha : s.banks[b].atRequest = true) :
    InAgreement (s.setBank b fun k => { k with state := .active, settleTimer := .stopped }) := by
  have record := State.setBank_same s b fun k => { k with state := .active, settleTimer := .stopped }
  refine (h.setBank _).whole_unqueued ?_ hn (by rw [State.bankState, record]; rfl)
  unfold State.HandshakeOf State.bankState
  rw [record]
  exact ⟨hr, ha, rfl⟩

theorem settleWaking (hn : b ∉ s.clear.queue) (hr : s.banks[b].request = .active) (ha : s.banks[b].atRequest = true)
    (o : Rest) : InAgreement (s.settleWaking b o) := by
  cases o with
  | retain =>
    simp only [State.settleWaking]
    split
    · exact h.enterClearing hn hr ha .retain
    · exact h.enterActive hn hr ha
  | off =>
    have record := State.setBank_same s b fun k => { k with lost := true }
    have lost : OthersAgree b { s.setBank b (fun k => { k with lost := true }) with irq := { s.irq with lost := true } } :=
      h.congr (fun _ e => State.setBank_other _ _ e) rfl
    have request : (s.setBank b fun k => { k with lost := true }).banks[b].request = .active := by rw [record, hr]
    have settled : (s.setBank b fun k => { k with lost := true }).banks[b].atRequest = true := by rw [record]; exact ha
    simp only [State.settleWaking]
    split
    · exact lost.enterClearing hn request settled .off
    · exact lost.enterActive hn request settled

/-- A raised bank agrees with its lines whatever it was: it is WAKING, or settles at once (R74, R78). -/
theorem wake (hn : b ∉ s.clear.queue) (o : Rest) : InAgreement (s.wake b o) := by
  unfold State.wake
  dsimp only
  generalize hu : ((s.requestLevel b .active (.waking o)).setBank b fun k => { k with wakeCount := satInc k.wakeCount }) = u
  have others : OthersAgree b u := hu ▸ (h.setBank _).setBank _
  have queue : u.clear.queue = s.clear.queue := by rw [← hu]; rfl
  have record : u.banks[b] = { s.banks[b] with
      state := .waking o, request := .active, settleTimer := .start s.regs.settleLimit.toNat, idleTimer := .stopped
      offTimer := .stopped, pendingWake := false, wakeCount := satInc s.banks[b].wakeCount } := by
    rw [← hu, State.setBank_same, State.requestLevel_banks, updAt_self]
  rw [← queue] at hn
  split
  next ha => exact others.settleWaking hn (by rw [record]) ha o
  next ha =>
    refine others.whole_unqueued ?_ hn (by rw [State.bankState, record]; rfl)
    rw [Bool.not_eq_true] at ha
    unfold State.HandshakeOf State.bankState
    rw [record] at ha ⊢
    exact ⟨rfl, ha, rfl⟩

theorem settleDescending {o : Rest} (hn : b ∉ s.clear.queue) (hr : s.banks[b].request = o.level)
    (ha : s.banks[b].atRequest = true) : InAgreement (s.settleDescending b o) := by
  have record := State.setBank_same s b fun k => { k with state := o.state, settleTimer := .stopped, pendingWake := false }
  have others := h.setBank fun k => { k with state := o.state, settleTimer := .stopped, pendingWake := false }
  unfold State.settleDescending
  dsimp only
  split
  · exact others.wake hn o
  · refine others.whole_unqueued ?_ hn (by rw [State.bankState, record]; cases o <;> rfl)
    unfold State.HandshakeOf State.bankState
    rw [record]
    cases o <;> exact ⟨hr, ha, rfl⟩

/-- So does a lowered bank (R74, R83, R84). -/
theorem descend (hn : b ∉ s.clear.queue) (o : Rest) : InAgreement (s.descend b o) := by
  have record : (s.requestLevel b o.level (.descending o)).banks[b] = { s.banks[b] with
      state := .descending o, request := o.level, settleTimer := .start s.regs.settleLimit.toNat, idleTimer := .stopped
      offTimer := .stopped, pendingWake := false } := by
    rw [State.requestLevel_banks, updAt_self]
  have others : OthersAgree b (s.requestLevel b o.level (.descending o)) := h.setBank _
  unfold State.descend
  dsimp only
  split
  next ha => exact others.settleDescending hn (by rw [record]) ha
  next ha =>
    refine others.whole_unqueued ?_ hn (by rw [State.bankState, record]; rfl)
    rw [Bool.not_eq_true] at ha
    unfold State.HandshakeOf State.bankState
    rw [record] at ha ⊢
    exact ⟨rfl, ha, rfl⟩

end OthersAgree

/-- A bank that becomes STUCK leaves the clear queue (R151). -/
theorem abandonClear_clearQueue (s : State) (b : BankNo) : (s.abandonClear b).clear.queue = s.clear.queue.erase b := by
  unfold State.abandonClear
  dsimp only
  split
  next h =>
    obtain ⟨rest, e⟩ := List.head?_eq_some_iff.mp h
    simp [e]
  · rfl

theorem makeStuck_clearQueue {s : State} {b : BankNo} (hf : s.fitted b = true) (hs : (s.bankState b).isStuck = false) :
    (s.makeStuck b).clear.queue = s.clear.queue.erase b := by
  simp only [State.makeStuck, hf, hs, Bool.not_false, Bool.and_self, if_true, State.markFailed_clear,
    State.setCauses_clear, abandonClear_clearQueue, State.setBank_clear]

theorem OthersAgree.makeStuck {s : State} {b : BankNo} (h : OthersAgree b s) (hf : s.fitted b = true)
    (hs : (s.bankState b).isStuck = false) : InAgreement (s.makeStuck b) := by
  have record := State.makeStuck_bank s b hf hs
  have queue := makeStuck_clearQueue hf hs
  have others : OthersAgree b (s.makeStuck b) := by
    refine ⟨fun c e => handshake_congr (State.makeStuck_other s e) (h.handshake c e), queue ▸ h.nodup.erase b,
      fun c e => ?_⟩
    rw [queue, State.bankState, State.makeStuck_other s e, List.mem_erase_of_ne (Ne.symm e)]
    exact h.exact c e
  refine others.whole_unqueued ?_ ?_ (by rw [State.bankState, record]; rfl)
  · unfold State.HandshakeOf State.bankState
    rw [record]
    rfl
  · rw [queue]
    exact h.nodup.not_mem_erase

namespace InAgreement

variable {s t : State}

theorem makeStuck (h : InAgreement s) (b : BankNo) : InAgreement (s.makeStuck b) := by
  by_cases hb : s.fitted b = true ∧ (s.bankState b).isStuck = false
  · exact (h.others b).makeStuck hb.1 hb.2
  · rw [not_and_or, Bool.not_eq_true, Bool.not_eq_false] at hb
    rwa [State.makeStuck_already s b hb]

/-- The bank at the head of the clear queue is settled at ACTIVE, which it enters when its clear ends (R150). -/
theorem endClear (h : InAgreement s) {b : BankNo} (hb : s.clear.queue.head? = some b) : InAgreement (s.endClear b) := by
  obtain ⟨rest, hq⟩ := List.head?_eq_some_iff.mp hb
  have nodup := h.exact.1
  rw [hq, List.nodup_cons] at nodup
  have other : ∀ c : BankNo, b ≠ c → (s.endClear b).banks[c] = s.banks[c] := fun c e => State.setBank_other _ _ e
  have queue : (s.endClear b).clear.queue = rest := by
    show s.clear.queue.tail = rest
    rw [hq]
    rfl
  have others : OthersAgree b (s.endClear b) := by
    refine ⟨fun c e => handshake_congr (other c e) (h.handshake c), queue ▸ nodup.2, fun c e => ?_⟩
    have listed := h.exact.2 c
    rw [hq, List.mem_cons, or_iff_right (Ne.symm e)] at listed
    rw [queue, State.bankState, other c e]
    exact listed
  have record : (s.endClear b).banks[b] =
      { s.banks[b] with state := .active, lost := s.clear.incomplete && s.banks[b].lost } := State.setBank_same _ _ _
  refine others.whole_unqueued ?_ (queue ▸ nodup.1) (by rw [State.bankState, record]; rfl)
  have clearing := (h.exact.2 b).1 (by rw [hq]; exact List.mem_cons_self)
  have hh := h.handshake b
  unfold State.HandshakeOf at hh
  cases hs : s.bankState b with
  | clearing o =>
    rw [hs] at hh
    unfold State.HandshakeOf State.bankState
    rw [record]
    exact hh
  | _ => rw [hs] at clearing; cases clearing

/-- At the assertion of RESETn the clears are abandoned, and a transition's settle timer runs on (R97, R153). -/
theorem warmReset (h : InAgreement s) : InAgreement (resetAsserted s) where
  handshake := fun b => by
    have hh := h.handshake b
    unfold State.HandshakeOf State.bankState at *
    rw [resetAsserted_bank, State.warmRecord]
    cases hs : s.banks[b].state with
    | waking o | descending o =>
      rw [hs] at hh
      obtain ⟨request, unsettled, -⟩ := hh
      dsimp only [Timer.start]
      exact ⟨request, unsettled, rfl⟩
    | clearing o =>
      rw [hs] at hh
      exact hh
    | _ =>
      dsimp only
      rw [hs] at hh ⊢
      exact hh
  exact := by
    rw [State.ClearQueueExact, resetAsserted_clear]
    refine ⟨List.nodup_nil, fun b => iff_of_false (List.not_mem_nil) ?_⟩
    rw [State.bankState, resetAsserted_bank, warmRecord_state]
    split
    · nofun
    next hn => exact hn

/-! ## The small steps of power control -/

theorem of_kept (h : InAgreement s) (k : BanksKept s t) : InAgreement t where
  handshake := fun b => k.handshake b (h.handshake b)
  exact := by
    rw [State.ClearQueueExact, k.queue]
    exact ⟨h.exact.1, fun b => by rw [k.state]; exact h.exact.2 b⟩

/-- A newly fitted bank agrees with the lines that were read at its fitting (R98). -/
theorem sampledRecord_agrees (h : t.banks[b] = sampledRecord s b) :
    t.HandshakeOf b ∧ (t.bankState b).isClearing = false := by
  unfold State.HandshakeOf State.bankState
  rw [h, sampledRecord]
  cases rests : restsAtOff s b with
  | true => exact ⟨⟨rfl, rests, rfl⟩, rfl⟩
  | false => exact ⟨rfl, rfl⟩

/-- In a part at rest no bank is in the clear queue, and each that becomes fitted agrees with its lines (R98, R191). -/
theorem refit (h : InAgreement s) (v : BitVec 16) (hm : s.mayRefit = true) : InAgreement (s.refit v) := by
  have off : ∀ b, s.bankState b = .off := fun b => by
    simp only [State.mayRefit, Bool.and_eq_true, List.all_eq_true, beq_iff_eq] at hm
    obtain ⟨⟨off, -⟩, -⟩ := hm
    exact off b (List.mem_finRange b)
  have empty : s.clear.queue = [] := List.eq_nil_iff_forall_not_mem.2 fun b => h.notQueued (by rw [off]; rfl)
  have agrees : ∀ b, (s.refit v).HandshakeOf b ∧ ((s.refit v).bankState b).isClearing = false := by
    intro b
    have record := refit_bank s v b
    split at record
    · exact sampledRecord_agrees record
    · exact ⟨handshake_congr record (h.handshake b), by rw [State.bankState, record, ← State.bankState, off]; rfl⟩
  refine ⟨fun b => (agrees b).1, ?_⟩
  rw [State.ClearQueueExact, (refit_clear s v).1 empty]
  exact ⟨List.nodup_nil, fun b => iff_of_false List.not_mem_nil (by rw [(agrees b).2]; nofun)⟩

/-- Every small step of power control keeps the agreement. -/
theorem step (h : InAgreement s) (k : PowerStep s t) : InAgreement t := by
  have sampled : ∀ (b : BankNo) (level : StatusLevel) (settled : Bool),
      OthersAgree b ((s.drive b level settled).sampleLines b) := fun b level settled =>
    (h.others b).congr (fun c e => State.setBank_other _ _ e) rfl
  have request : ∀ (b : BankNo) (level : StatusLevel) (settled : Bool),
      ((s.drive b level settled).sampleLines b).banks[b].request = s.banks[b].request := fun b level settled => by
    rw [drive_sampled]
  cases k with
  | kept k => exact h.of_kept k
  | wake b o hb =>
    refine (h.others b).wake (h.notQueued ?_) o
    rcases hb with e | e <;> rw [e]
    · cases o <;> rfl
    · rfl
  | settleWaking b level settled o hb ha =>
    have hh := h.handshake b
    rw [State.HandshakeOf, hb] at hh
    exact (sampled b level settled).settleWaking (h.notQueued (by rw [hb]; rfl)) ((request b _ _).trans hh.1) ha o
  | settleDescending b level settled o hb ha =>
    have hh := h.handshake b
    rw [State.HandshakeOf, hb] at hh
    exact (sampled b level settled).settleDescending (h.notQueued (by rw [hb]; rfl)) ((request b _ _).trans hh.1) ha
  | makeStuck b => exact h.makeStuck b
  | unsolicited b level settled hf hs =>
    exact (sampled b level settled).makeStuck hf (by rw [State.bankState, drive_sampled]; exact hs)
  | descend b o hc hl => exact (h.others b).descend (h.notQueued hc) o
  | enterClearing b hb hl =>
    have hh := h.handshake b
    rw [State.HandshakeOf, hb] at hh
    obtain ⟨level, settled, -⟩ := hh
    exact (h.others b).enterClearing (h.notQueued (by rw [hb]; rfl)) level settled .retain
  | pendClear b hl => exact ⟨h.handshake, h.exact⟩
  | allocate r i hj => exact ⟨h.handshake, h.exact⟩
  | endClear b hb => exact h.endClear hb
  | warmReset => exact h.warmReset
  | refit v hm => exact h.refit v hm

theorem steps (h : InAgreement s) (k : PowerSteps s t) : InAgreement t := by
  induction k with
  | refl => exact h
  | tail _ k ih => exact ih.step k

/-- The idle and off timers are no part of the agreement. -/
theorem of_timers (h : InAgreement s)
    (hb : ∀ b : BankNo, t.banks[b] =
      { s.banks[b] with idleTimer := t.banks[b].idleTimer, offTimer := t.banks[b].offTimer })
    (hc : t.clear = s.clear) : InAgreement t where
  handshake := fun b => by
    have hh := h.handshake b
    unfold State.HandshakeOf State.bankState at *
    rw [hb b]
    exact hh
  exact := by
    rw [State.ClearQueueExact, hc]
    exact ⟨h.exact.1, fun b => by rw [State.bankState, hb b]; exact h.exact.2 b⟩

theorem afterGrant (h : InAgreement s) (pre : State) : InAgreement (s.afterGrant pre) :=
  h.of_timers (fun b => by rw [afterGrant_bank]; rfl) (by rw [afterGrant_eq])

/-- What any command does keeps the agreement. -/
theorem event (h : InAgreement s) (k : PowerEvent s t) : InAgreement t := by
  induction k with
  | still k => exact h.of_kept k.toBanksKept
  | replied _ _ _ _ ih => exact ⟨ih.handshake, ih.exact⟩
  | policy b f =>
    refine h.of_timers (fun c => ?_) rfl
    by_cases e : b = c
    · subst e
      rw [State.refreshTimersOf, State.setBank_same]
      rfl
    · rw [State.refreshTimersOf, State.setBank_other _ _ e]
      rfl
  | ended k pre => exact (h.steps k).afterGrant pre
  | offExpired b hb _ k pre =>
    exact (((h.others b).descend (h.notQueued (by rw [hb]; rfl)) .off).steps k).afterGrant pre
  | powerOnReset hr =>
    obtain ⟨u, hu, -, -, -, -, -, -, clear, -, -, -, -, -, -, -, -, -, bank, -⟩ := powerOnResetGivesThePowerOnValues.2 s
    rw [hu] at hr
    injection hr with hr
    subst hr
    have agrees := fun b => sampledRecord_agrees (s := s) (t := u) (b := b) (bank b)
    refine ⟨fun b => (agrees b).1, ?_⟩
    rw [State.ClearQueueExact, clear]
    exact ⟨List.nodup_nil, fun b => iff_of_false List.not_mem_nil (by rw [(agrees b).2]; nofun)⟩

end InAgreement

/-- Settles O15: every small step of power control keeps the agreement of a bank with its lines and the clear queue's list of the
CLEARING banks, and what follows the grant moves timers alone. -/
theorem stepKeepsTheHandshakeAndTheClearQueue : Obligations.StepKeepsTheHandshakeAndTheClearQueue := by
  rintro s t ⟨handshake, exact⟩ h
  obtain ⟨rest, k⟩ := step_powerEvent h
  have agrees := InAgreement.event (s := { s with pending := rest }) ⟨handshake, exact⟩ k
  exact ⟨agrees.handshake, agrees.exact⟩

end Sys2Proof.Machine

/-! The idle and off timers run exactly while their conditions hold, and start with the delays of their bank (R82, R84, R85,
R97). -/

namespace Sys2Proof.Machine

/-- No idle or off timer starts between `s` and `t`. -/
structure NoneStarts (s t : State) : Prop where
  idle : ∀ b : BankNo, t.banks[b].idleTimer.isRunning = true → s.banks[b].idleTimer.isRunning = true
  off : ∀ b : BankNo, t.banks[b].offTimer.isRunning = true → s.banks[b].offTimer.isRunning = true

namespace NoneStarts

variable {s t u : State}

theorem refl (s : State) : NoneStarts s s := ⟨fun _ => id, fun _ => id⟩

theorem trans (h : NoneStarts s t) (h' : NoneStarts t u) : NoneStarts s u :=
  ⟨fun b x => h.idle b (h'.idle b x), fun b x => h.off b (h'.off b x)⟩

/-- Every record takes its timers over, or stops them. -/
theorem of_record (h : ∀ b : BankNo, (t.banks[b].idleTimer = s.banks[b].idleTimer ∨ t.banks[b].idleTimer = .stopped) ∧
    (t.banks[b].offTimer = s.banks[b].offTimer ∨ t.banks[b].offTimer = .stopped)) : NoneStarts s t where
  idle := fun b x => by
    rcases (h b).1 with e | e <;> rw [e] at x
    · exact x
    · cases x
  off := fun b x => by
    rcases (h b).2 with e | e <;> rw [e] at x
    · exact x
    · cases x

theorem of_update {b : BankNo} {f : BankRecord → BankRecord} (hb : t.banks = updAt s.banks b f)
    (hf : ∀ k, ((f k).idleTimer = k.idleTimer ∨ (f k).idleTimer = .stopped) ∧
      ((f k).offTimer = k.offTimer ∨ (f k).offTimer = .stopped)) : NoneStarts s t :=
  of_record fun c => by
    by_cases e : b = c
    · subst e
      rw [hb, updAt_self]
      exact hf _
    · rw [hb, updAt_ne _ _ e]
      exact ⟨.inl rfl, .inl rfl⟩

/-- One record changes in other things than its timers. -/
theorem setBank (s : State) (b : BankNo) {f : BankRecord → BankRecord}
    (hf : ∀ k, (f k).idleTimer = k.idleTimer ∧ (f k).offTimer = k.offTimer) : NoneStarts s (s.setBank b f) :=
  of_update (f := f) rfl fun k => ⟨.inl (hf k).1, .inl (hf k).2⟩

theorem enterClearing (s : State) (b : BankNo) (o : Rest) : NoneStarts s (s.enterClearing b o) :=
  of_update (s.enterClearing_banks b o) fun _ => ⟨.inr rfl, .inl rfl⟩

theorem requestLevel (s : State) (b : BankNo) (level : Level) (state : BankState) :
    NoneStarts s (s.requestLevel b level state) :=
  of_update (s.requestLevel_banks b level state) fun _ => ⟨.inr rfl, .inr rfl⟩

theorem settleWaking (s : State) (b : BankNo) (o : Rest) : NoneStarts s (s.settleWaking b o) := by
  have active : ∀ u : State, NoneStarts u (u.setBank b fun k => { k with state := .active, settleTimer := .stopped }) :=
    fun u => setBank u b fun _ => ⟨rfl, rfl⟩
  cases o with
  | retain =>
    simp only [State.settleWaking]
    split
    · exact enterClearing s b .retain
    · exact active s
  | off =>
    have lost : NoneStarts s
        { s.setBank b (fun k => { k with lost := true }) with irq := { s.irq with lost := true } } :=
      of_update (f := fun k => { k with lost := true }) rfl fun _ => ⟨.inl rfl, .inl rfl⟩
    simp only [State.settleWaking]
    split
    · exact lost.trans (enterClearing _ b .off)
    · exact lost.trans (active _)

theorem wake (s : State) (b : BankNo) (o : Rest) : NoneStarts s (s.wake b o) := by
  have raised : NoneStarts s
      ((s.requestLevel b .active (.waking o)).setBank b fun k => { k with wakeCount := satInc k.wakeCount }) :=
    (requestLevel s b ..).trans (setBank _ b fun _ => ⟨rfl, rfl⟩)
  unfold State.wake
  dsimp only
  split
  · exact raised.trans (settleWaking _ b o)
  · exact raised

theorem settleDescending (s : State) (b : BankNo) (o : Rest) : NoneStarts s (s.settleDescending b o) := by
  have settled : NoneStarts s
      (s.setBank b fun k => { k with state := o.state, settleTimer := .stopped, pendingWake := false }) :=
    setBank (f := fun k => { k with state := o.state, settleTimer := .stopped, pendingWake := false }) s b
      fun _ => ⟨rfl, rfl⟩
  unfold State.settleDescending
  dsimp only
  split
  · exact settled.trans (wake _ b o)
  · exact settled

theorem descend (s : State) (b : BankNo) (o : Rest) : NoneStarts s (s.descend b o) := by
  unfold State.descend
  dsimp only
  split
  · exact (requestLevel s b ..).trans (settleDescending _ b o)
  · exact requestLevel s b ..

theorem makeStuck (s : State) (b : BankNo) : NoneStarts s (s.makeStuck b) := by
  by_cases hb : s.fitted b = true ∧ (s.bankState b).isStuck = false
  · refine of_record fun c => ?_
    by_cases e : b = c
    · subst e
      rw [State.makeStuck_bank s b hb.1 hb.2]
      exact ⟨.inr rfl, .inr rfl⟩
    · rw [State.makeStuck_other s e]
      exact ⟨.inl rfl, .inl rfl⟩
  · rw [not_and_or, Bool.not_eq_true, Bool.not_eq_false] at hb
    rw [State.makeStuck_already s b hb]
    exact refl s

theorem sampled (s : State) (b : BankNo) (level : StatusLevel) (settled : Bool) :
    NoneStarts s ((s.drive b level settled).sampleLines b) :=
  of_update (f := fun k => { k with reported := (s.drive b level settled).pins.pstat[b]
                                    settled := (s.drive b level settled).pins.pset[b] }) rfl
    fun _ => ⟨.inl rfl, .inl rfl⟩

theorem refit (s : State) (v : BitVec 16) : NoneStarts s (s.refit v) := by
  refine of_record fun b => ?_
  rw [refit_bank]
  split
  · exact ⟨.inr rfl, .inr rfl⟩
  · exact ⟨.inl rfl, .inl rfl⟩

/-- Timers start at the end of an event alone. -/
theorem of_step (h : PowerStep s t) : NoneStarts s t := by
  cases h with
  | kept h => exact ⟨h.idle, h.off⟩
  | wake b o h => exact wake s b o
  | settleWaking b level settled o h ha => exact (sampled s b level settled).trans (settleWaking _ b o)
  | settleDescending b level settled o h ha => exact (sampled s b level settled).trans (settleDescending _ b o)
  | makeStuck b => exact makeStuck s b
  | unsolicited b level settled hf hs => exact (sampled s b level settled).trans (makeStuck _ b)
  | descend b o hc hl => exact descend s b o
  | enterClearing b h hl => exact enterClearing s b .retain
  | pendClear b hl => exact ⟨fun _ => id, fun _ => id⟩
  | allocate r i h => exact ⟨fun _ => id, fun _ => id⟩
  | endClear b h =>
    exact of_update (f := fun k => { k with state := .active, lost := s.clear.incomplete && k.lost }) rfl
      fun _ => ⟨.inl rfl, .inl rfl⟩
  | warmReset =>
    refine of_record fun b => ?_
    rw [resetAsserted_bank]
    unfold State.warmRecord
    split <;> exact ⟨.inl rfl, .inl rfl⟩
  | refit v h => exact refit s v

theorem of_steps (h : PowerSteps s t) : NoneStarts s t := by
  induction h with
  | refl => exact refl s
  | tail _ h ih => exact ih.trans (of_step h)

end NoneStarts

/-! ## The timers at the end of a command -/

/-- The timers follow their conditions, and one that has started since `s` counts toward its bank's delay. -/
structure TimersKept (s t : State) : Prop where
  follow : t.TimersFollowConditions
  started : ∀ b : BankNo,
    State.StartedWith (t.regs.policy[b]).retainDelay.toNat s.banks[b].idleTimer t.banks[b].idleTimer ∧
      State.StartedWith (t.regs.policy[b]).offDelay.toNat s.banks[b].offTimer t.banks[b].offTimer

/-- A timer that runs no more than before has not started. -/
theorem startedWith_of_ran {limit : Nat} {t t' : Timer} (h : t'.isRunning = true → t.isRunning = true) :
    State.StartedWith limit t t' := fun stopped runs => by
  rw [h runs] at stopped
  cases stopped

/-- A timer that follows its condition starts with its delay (R82, R84, R197). -/
theorem followTimer_startedWith {holds : Bool} {delay : Nat} {t u : Timer}
    (h : u.isRunning = true → t.isRunning = true) : State.StartedWith delay t (State.followTimer holds delay u) := by
  intro stopped runs
  have still : ¬u.isRunning = true := fun r => by
    rw [h r] at stopped
    cases stopped
  unfold State.followTimer at *
  split at runs
  next hc =>
    rw [if_pos hc, if_neg still]
    rfl
  · cases runs

namespace TimersKept

variable {s t u : State}

theorem afterGrant (h : NoneStarts s u) (pre : State) : TimersKept s (u.afterGrant pre) where
  follow := fun b => by
    rw [afterGrant_bank, (afterGrant_conditions u pre b).1, (afterGrant_conditions u pre b).2]
    exact ⟨followTimer_isRunning .., followTimer_isRunning ..⟩
  started := fun b => by
    have regs : (u.afterGrant pre).regs = u.regs := by rw [afterGrant_eq]
    rw [afterGrant_bank, regs]
    exact ⟨followTimer_startedWith (h.idle b), followTimer_startedWith (h.off b)⟩

/-- A policy write starts and stops the timers of its bank alone, by the new policy (R85). -/
theorem policy (h : s.TimersFollowConditions) (b : BankNo) (f : Policy → Policy) :
    TimersKept s ((s.setPolicy b f).refreshTimersOf b) := by
  have conditions := refreshTimersOf_conditions (s.setPolicy b f) b
  have record : ((s.setPolicy b f).refreshTimersOf b).banks[b] = refreshedRecord (s.setPolicy b f) b :=
    State.setBank_same _ _ _
  have other : ∀ c : BankNo, b ≠ c → ((s.setPolicy b f).refreshTimersOf b).banks[c] = s.banks[c] := fun c e =>
    State.setBank_other _ _ e
  constructor
  · intro c
    rw [(conditions c).1, (conditions c).2]
    by_cases e : b = c
    · subst e
      rw [record]
      exact ⟨followTimer_isRunning .., followTimer_isRunning ..⟩
    · have same : (s.setPolicy b f).regs.policy[c] = s.regs.policy[c] := updAt_ne _ _ e
      rw [other c e, (h c).1, (h c).2]
      unfold State.idleConditions State.offConditions
      rw [same]
      exact ⟨rfl, rfl⟩
  · intro c
    by_cases e : b = c
    · subst e
      rw [record]
      exact ⟨followTimer_startedWith id, followTimer_startedWith id⟩
    · rw [other c e]
      exact ⟨startedWith_of_ran id, startedWith_of_ran id⟩

/-- No bank is in a state with a timer after power-on reset. -/
theorem powerOnReset (h : exec .powerOnReset s = .next t) : TimersKept s t := by
  obtain ⟨u, hu, -, -, -, -, -, -, -, -, -, -, -, -, -, -, -, -, bank, -⟩ := powerOnResetGivesThePowerOnValues.2 s
  rw [hu] at h
  injection h with h
  subst h
  constructor
  · intro b
    have state : u.bankState b = .off ∨ u.bankState b = .stuck .off := by
      rw [State.bankState, bank b]
      dsimp only
      split
      · exact .inl rfl
      · exact .inr rfl
    unfold State.idleConditions State.offConditions
    rw [bank b]
    rcases state with e | e <;> simp [e, BankRecord.reset, Timer.isRunning]
  · intro b
    rw [bank b]
    exact ⟨startedWith_of_ran nofun, startedWith_of_ran nofun⟩

theorem event (h : s.TimersFollowConditions) (k : PowerEvent s t) : TimersKept s t := by
  induction k with
  | still k => exact ⟨k.timers h, fun b => ⟨startedWith_of_ran (k.idle b), startedWith_of_ran (k.off b)⟩⟩
  | replied _ _ _ _ ih => exact ⟨ih.follow, ih.started⟩
  | policy b f => exact policy h b f
  | ended k pre => exact afterGrant (.of_steps k) pre
  | offExpired b _ _ k pre => exact afterGrant ((NoneStarts.descend s b .off).trans (.of_steps k)) pre
  | powerOnReset k => exact powerOnReset k

end TimersKept

/-- Settles O18: no small step of power control starts a timer, and at the end of an event, and at a policy write, each timer
follows its conditions. -/
theorem stepKeepsTimersWithTheirConditions : Obligations.StepKeepsTimersWithTheirConditions := by
  intro s t h hs
  obtain ⟨rest, k⟩ := step_powerEvent hs
  have kept := TimersKept.event (s := { s with pending := rest }) h k
  exact ⟨kept.follow, kept.started⟩

end Sys2Proof.Machine

/-! A bank without power, or on its way there or back from OFF, holds no lines (law L2, R84). -/

namespace Sys2Proof.Machine

/-- A bank holds no lines in the states of law L2, and none while a clear of it is pending (R145, R146). -/
structure DryBank (s : State) (b : BankNo) : Prop where
  asleep : State.holdsNoLines (s.bankState b) = true → s.lineCount b = 0
  wanted : s.clear.wanted[b] = true → s.lineCount b = 0

/-- Every bank does so. -/
def DryBanks (s : State) : Prop := ∀ b, DryBank s b

/-! ## The states that power control gives a bank -/

/-- A wake's settle event finds no lines in a bank that it leaves without: one raised from OFF, or with a clear pending. -/
theorem settleWaking_holdsNoLines {s : State} {b : BankNo} {o : Rest}
    (h : State.holdsNoLines ((s.settleWaking b o).bankState b) = true) : o = .off ∨ s.clear.wanted[b] = true := by
  cases o with
  | off => exact .inl rfl
  | retain =>
    simp only [State.settleWaking] at h
    split at h
    next hw => exact .inr hw
    · rw [State.bankState, State.setBank_same] at h
      cases h

theorem wake_holdsNoLines {s : State} {b : BankNo} {o : Rest} (h : State.holdsNoLines ((s.wake b o).bankState b) = true) :
    o = .off ∨ s.clear.wanted[b] = true := by
  unfold State.wake at h
  dsimp only at h
  split at h
  · have found := settleWaking_holdsNoLines h
    exact found
  · rw [State.bankState, State.setBank_same, State.requestLevel_banks, updAt_self] at h
    cases o with
    | off => exact .inl rfl
    | retain => cases h

theorem settleDescending_holdsNoLines {s : State} {b : BankNo} {o : Rest}
    (h : State.holdsNoLines ((s.settleDescending b o).bankState b) = true) : o = .off ∨ s.clear.wanted[b] = true := by
  unfold State.settleDescending at h
  dsimp only at h
  split at h
  · have found := wake_holdsNoLines h
    exact found
  · rw [State.bankState, State.setBank_same] at h
    cases o with
    | off => exact .inl rfl
    | retain => cases h

theorem descend_holdsNoLines {s : State} {b : BankNo} {o : Rest}
    (h : State.holdsNoLines ((s.descend b o).bankState b) = true) : o = .off ∨ s.clear.wanted[b] = true := by
  unfold State.descend at h
  dsimp only at h
  split at h
  · have found := settleDescending_holdsNoLines h
    exact found
  · rw [State.bankState, State.requestLevel_banks, updAt_self] at h
    cases o with
    | off => exact .inl rfl
    | retain => cases h

theorem settleDescending_wanted (s : State) (b c : BankNo) (o : Rest) (h : s.clear.wanted[c] = false) :
    (s.settleDescending b o).clear.wanted[c] = false := by
  unfold State.settleDescending
  dsimp only
  split
  · exact wake_wanted _ b c o h
  · exact h

theorem descend_wanted (s : State) (b c : BankNo) (o : Rest) (h : s.clear.wanted[c] = false) :
    (s.descend b o).clear.wanted[c] = false := by
  unfold State.descend
  dsimp only
  split
  · exact settleDescending_wanted _ b c o h
  · exact h

/-- A bank that becomes STUCK in a state of law L2 has stuck origin OFF (R86), and only such a bank has. -/
theorem holdsNoLines_stuckOrigin {st : BankState} (h : State.holdsNoLines (.stuck st.stuckOrigin) = true) :
    State.holdsNoLines st = true := by
  cases st with
  | waking o | descending o => cases o <;> exact h
  | _ => exact h

/-- A bank to which a line may be allocated is not asleep (R45). -/
theorem awake_of_mayAllocate {st : BankState} (h : st.mayAllocate = true) : State.holdsNoLines st = false := by
  cases st with
  | waking o | descending o =>
    cases o with
    | off => cases h
    | retain => rfl
  | retain => rfl
  | _ => cases h

theorem makeStuck_holdsNoLines {s : State} {b c : BankNo} (h : State.holdsNoLines ((s.makeStuck b).bankState c) = true) :
    State.holdsNoLines (s.bankState c) = true := by
  by_cases e : b = c
  · subst e
    by_cases hb : s.fitted b = true ∧ (s.bankState b).isStuck = false
    · rw [State.bankState, State.makeStuck_bank s b hb.1 hb.2] at h
      exact holdsNoLines_stuckOrigin h
    · rw [not_and_or, Bool.not_eq_true, Bool.not_eq_false] at hb
      rwa [State.makeStuck_already s b hb] at h
  · rwa [State.bankState, State.makeStuck_other s e] at h

/-! ## The small steps of power control -/

namespace DryBank

variable {s t : State} {b : BankNo}

/-- A bank goes on so where it gains no line, and is asleep or has a clear pending only as before. -/
theorem of_kept (h : DryBank s b) (hs : State.holdsNoLines (t.bankState b) = true → State.holdsNoLines (s.bankState b) = true)
    (hw : t.clear.wanted[b] = true → s.clear.wanted[b] = true) (hl : t.lineCount b ≤ s.lineCount b) : DryBank t b where
  asleep := fun x => Nat.eq_zero_of_le_zero (h.asleep (hs x) ▸ hl)
  wanted := fun x => Nat.eq_zero_of_le_zero (h.wanted (hw x) ▸ hl)

theorem of_empty (h : t.lineCount b = 0) : DryBank t b := ⟨fun _ => h, fun _ => h⟩

end DryBank

namespace DryBanks

variable {s t : State}

/-- One bank changes its state, and goes to sleep without lines. -/
theorem update (h : DryBanks s) (b : BankNo) (ho : ∀ c : BankNo, b ≠ c → t.banks[c] = s.banks[c])
    (hw : ∀ c : BankNo, s.clear.wanted[c] = false → t.clear.wanted[c] = false) (hs : t.store = s.store)
    (hb : State.holdsNoLines (t.bankState b) = true → s.lineCount b = 0) : DryBanks t := fun c => by
  have lines : t.lineCount c = s.lineCount c := by rw [State.lineCount, State.lineCount, hs]
  have wanted : t.clear.wanted[c] = true → s.clear.wanted[c] = true := fun x => by
    by_contra n
    rw [hw c (Bool.eq_false_iff.mpr n)] at x
    cases x
  by_cases e : b = c
  · subst e
    exact ⟨fun x => lines.trans (hb x), fun x => lines.trans ((h b).wanted (wanted x))⟩
  · exact (h c).of_kept (by rw [State.bankState, ho c e]; exact id) wanted lines.le

/-- A bank raised from OFF held no lines. -/
theorem wake (h : DryBanks s) (b : BankNo) (o : Rest) (hb : o = .off → s.lineCount b = 0) : DryBanks (s.wake b o) :=
  h.update b (fun _ e => State.wake_other s o e) (fun c => wake_wanted s b c o) (State.wake_store ..) fun x =>
    (wake_holdsNoLines x).elim hb (h b).wanted

theorem settleWaking (h : DryBanks s) (b : BankNo) (o : Rest) (hb : o = .off → s.lineCount b = 0) :
    DryBanks (s.settleWaking b o) :=
  h.update b (fun _ e => State.settleWaking_other s o e) (fun c => settleWaking_wanted s b c o) (State.settleWaking_store ..)
    fun x => (settleWaking_holdsNoLines x).elim hb (h b).wanted

theorem settleDescending (h : DryBanks s) (b : BankNo) (o : Rest) (hb : o = .off → s.lineCount b = 0) :
    DryBanks (s.settleDescending b o) :=
  h.update b (fun _ e => State.settleDescending_other s o e) (fun c => settleDescending_wanted s b c o)
    (State.settleDescending_store ..) fun x => (settleDescending_holdsNoLines x).elim hb (h b).wanted

theorem descend (h : DryBanks s) (b : BankNo) (o : Rest) (hb : o = .off → s.lineCount b = 0) : DryBanks (s.descend b o) :=
  h.update b (fun _ e => State.descend_other s o e) (fun c => descend_wanted s b c o) (State.descend_store ..) fun x =>
    (descend_holdsNoLines x).elim hb (h b).wanted

theorem of_kept (h : DryBanks s) (k : BanksKept s t) : DryBanks t := fun b =>
  (h b).of_kept (by rw [k.state]; exact id) (by rw [k.wanted]; exact id) (k.lines b)

theorem makeStuck (h : DryBanks s) (b : BankNo) : DryBanks (s.makeStuck b) := fun c =>
  (h c).of_kept makeStuck_holdsNoLines (makeStuck_wanted s b c)
    (by rw [State.lineCount, State.makeStuck_store]; exact le_rfl)

/-- The lines that are read are those of no store. -/
theorem sampled (h : DryBanks s) (b : BankNo) (level : StatusLevel) (settled : Bool) :
    DryBanks ((s.drive b level settled).sampleLines b) := fun c =>
  (h c).of_kept (by
    by_cases e : b = c
    · subst e
      rw [State.bankState, drive_sampled]
      exact id
    · rw [State.bankState, State.sampleLines, State.setBank_other _ _ e]
      exact id) id le_rfl

/-- A line is allocated in a bank that is awake or has come from RETAIN, and the bank's pending clear is withdrawn (R45, R146). -/
theorem allocate (h : DryBanks s) {r : Request} {i : SlotNo} (hj : Justified s r (.allocated i)) :
    DryBanks (State.setClearPending { s with store := s.store.allocate i r s.clock.msTime } r.bank false) := by
  obtain ⟨-, free, awake, -⟩ := hj
  intro c
  have count := LineStore.allocate_lineCount free r s.clock.msTime c
  by_cases e : r.bank = c
  · subst e
    refine ⟨fun x => ?_, fun x => ?_⟩
    · have asleep : State.holdsNoLines (s.bankState r.bank) = true := x
      rw [awake_of_mayAllocate awake] at asleep
      cases asleep
    · have wanted : (updAt s.clear.wanted r.bank fun _ => false)[r.bank] = true := x
      rw [updAt_self] at wanted
      cases wanted
  · have wanted : (updAt s.clear.wanted r.bank fun _ => false)[c] = s.clear.wanted[c] := updAt_ne _ _ e
    rw [beq_false_of_ne e] at count
    exact (h c).of_kept id (fun x => wanted ▸ x) count.le

theorem step (h : DryBanks s) (k : PowerStep s t) : DryBanks t := by
  cases k with
  | kept k => exact h.of_kept k
  | wake b o hb =>
    refine h.wake b o fun e => (h b).asleep ?_
    rcases hb with hb | hb <;> rw [hb, e] <;> rfl
  | settleWaking b level settled o hb ha =>
    exact (h.sampled b level settled).settleWaking b o fun e => (h b).asleep (by rw [hb, e]; rfl)
  | settleDescending b level settled o hb ha =>
    exact (h.sampled b level settled).settleDescending b o fun e => (h b).asleep (by rw [hb, e]; rfl)
  | makeStuck b => exact h.makeStuck b
  | unsolicited b level settled hf hs => exact (h.sampled b level settled).makeStuck b
  | descend b o hc hl => exact h.descend b o hl
  | enterClearing b hb hl =>
    refine h.update b (fun c e => updAt_ne _ _ e) (fun c x => ?_) rfl fun _ => hl
    by_cases e : b = c
    · subst e
      exact updAt_self _ _ _
    · exact (updAt_ne _ _ e).trans x
  | pendClear b hl =>
    intro c
    by_cases e : b = c
    · subst e
      exact .of_empty hl
    · have wanted : (updAt s.clear.wanted b fun _ => true)[c] = s.clear.wanted[c] := updAt_ne _ _ e
      exact (h c).of_kept id (fun x => wanted ▸ x) le_rfl
  | allocate r i hj => exact h.allocate hj
  | endClear b hb =>
    refine h.update b (fun c e => State.setBank_other _ _ e) (fun _ => id) rfl fun x => ?_
    have active : (s.endClear b).bankState b = .active := by
      unfold State.endClear
      rw [State.bankState, State.setBank_same]
    rw [active] at x
    cases x
  | warmReset =>
    intro b
    refine (h b).of_kept (fun x => ?_) (fun x => ?_) (resetAsserted_lineCount ..).le
    · rw [State.bankState, resetAsserted_bank, warmRecord_state] at x
      split at x
      · cases x
      · exact x
    · rw [resetAsserted_clear, reset_wanted] at x
      cases x
  | refit v hm =>
    intro b
    simp only [State.mayRefit, Bool.and_eq_true, beq_iff_eq] at hm
    obtain ⟨⟨-, empty⟩, -⟩ := hm
    refine .of_empty ?_
    rw [State.lineCount, refit_store, LineStore.lineCount_eq_zero_iff]
    intro i
    rw [(LineStore.fill_eq_zero_iff _).1 empty i]
    rfl

theorem steps (h : DryBanks s) (k : PowerSteps s t) : DryBanks t := by
  induction k with
  | refl => exact h
  | tail _ k ih => exact ih.step k

end DryBanks

/-! ## The end of a command -/

theorem lineCount_of_offConditions {s : State} {b : BankNo} (h : s.offConditions b = true) : s.lineCount b = 0 := by
  simp only [State.offConditions, Bool.and_eq_true, beq_iff_eq] at h
  obtain ⟨⟨-, lines⟩, -⟩ := h
  exact lines

theorem sleepers_of_dry {s : State} (h : DryBanks s)
    (ho : ∀ b : BankNo, s.banks[b].offTimer.isRunning = true → s.lineCount b = 0) : s.SleepersHoldNoLines := fun b =>
  ⟨(h b).asleep, (h b).wanted, ho b⟩

theorem dry_of_sleepers {s : State} (h : s.SleepersHoldNoLines) : DryBanks s := fun b => by
  obtain ⟨asleep, wanted, -⟩ := h b
  exact ⟨asleep, wanted⟩

theorem lineCount_of_offTimer {s : State} (h : s.SleepersHoldNoLines) {b : BankNo}
    (hr : s.banks[b].offTimer.isRunning = true) : s.lineCount b = 0 := by
  obtain ⟨-, -, off⟩ := h b
  exact off hr

theorem DryBanks.afterGrant {s : State} (h : DryBanks s) (pre : State) : (s.afterGrant pre).SleepersHoldNoLines := by
  have lines : ∀ b, (s.afterGrant pre).lineCount b = s.lineCount b := fun b => by
    rw [State.lineCount, State.afterGrant_store, State.lineCount]
  refine sleepers_of_dry (fun b => ?_) fun b x => ?_
  · exact (h b).of_kept (by rw [afterGrant_bankState]; exact id) (by rw [afterGrant_eq]; exact id) (lines b).le
  · rw [afterGrant_bank] at x
    rw [lines]
    exact lineCount_of_offConditions ((followTimer_isRunning ..).symm.trans x)

/-- What any command does keeps the sleepers without lines. -/
theorem sleepers_event {s t : State} (h : s.SleepersHoldNoLines) (k : PowerEvent s t) : t.SleepersHoldNoLines := by
  have dry := dry_of_sleepers h
  induction k with
  | still k =>
    exact sleepers_of_dry (dry.of_kept k.toBanksKept) fun b x =>
      Nat.eq_zero_of_le_zero (lineCount_of_offTimer h (k.off b x) ▸ k.lines b)
  | replied _ _ _ _ ih => exact ih
  | policy b f =>
    have other : ∀ c : BankNo, b ≠ c → ((s.setPolicy b f).refreshTimersOf b).banks[c] = s.banks[c] := fun c e =>
      State.setBank_other _ _ e
    have record : ((s.setPolicy b f).refreshTimersOf b).banks[b] = refreshedRecord (s.setPolicy b f) b :=
      State.setBank_same _ _ _
    refine sleepers_of_dry (dry.update b other (fun _ => id) rfl fun x => ?_) fun c x => ?_
    · rw [State.bankState, record] at x
      exact (dry b).asleep x
    · by_cases e : b = c
      · subst e
        rw [record] at x
        exact lineCount_of_offConditions (s := s.setPolicy b f) ((followTimer_isRunning ..).symm.trans x)
      · rw [other c e] at x
        exact lineCount_of_offTimer h x
  | ended k pre => exact (dry.steps k).afterGrant pre
  | offExpired b _ hr k pre => exact ((dry.descend b .off fun _ => lineCount_of_offTimer h hr).steps k).afterGrant pre
  | powerOnReset hr =>
    obtain ⟨u, hu, -, store, -⟩ := powerOnResetGivesThePowerOnValues.2 s
    rw [hu] at hr
    injection hr with hr
    subst hr
    have empty : ∀ b, u.lineCount b = 0 := fun b => by
      rw [State.lineCount, store, LineStore.lineCount_eq_zero_iff]
      intro i
      simp [LineStore.reset, slotOfBank]
    exact fun b => ⟨fun _ => empty b, fun _ => empty b, fun _ => empty b⟩

/-- Settles O20: a bank goes to sleep, and a clear of it is pended, only without lines; a line comes only to a bank that is awake
or comes from RETAIN, and withdraws the pending clear. -/
theorem stepKeepsSleepersWithoutLines : Obligations.StepKeepsSleepersWithoutLines := by
  intro s t h hs
  obtain ⟨rest, k⟩ := step_powerEvent hs
  exact sleepers_event (s := { s with pending := rest }) h k

end Sys2Proof.Machine

/-! A bank that is raised or lowered, through the end of its event (R74, R78, R83, R84), and the expiries of the timers (R197). -/

namespace Sys2Proof.Machine

/-! ## A bank that is settled at one level is not settled at another -/

theorem status_injective : Function.Injective Level.status := by
  intro l m
  cases l <;> cases m <;> simp [Level.status]

theorem notSettledAt {k : BankRecord} {level : Level} (h : k.atRequest = true) (hl : k.request ≠ level) :
    (k.settled && k.reported == level.status) = false := by
  rw [BankRecord.atRequest, Bool.and_eq_true, beq_iff_eq] at h
  obtain ⟨-, reported⟩ := h
  rw [reported, beq_false_of_ne (status_injective.ne hl), Bool.and_false]

section
variable {s : State} {b : BankNo} {level : Level} (h : s.HandshakeOf b)
include h

theorem rest_notSettledAt {o : Rest} (hb : s.bankState b = o.state) (hl : o.level ≠ level) :
    (s.banks[b].settled && s.banks[b].reported == level.status) = false := by
  unfold State.HandshakeOf at h
  rw [hb] at h
  cases o <;>
  · obtain ⟨request, settled, -⟩ := h
    exact notSettledAt settled (request ▸ hl)

theorem active_notSettledAt (hb : s.bankState b = .active) (hl : .active ≠ level) :
    (s.banks[b].settled && s.banks[b].reported == level.status) = false := by
  unfold State.HandshakeOf at h
  rw [hb] at h
  obtain ⟨request, settled, -⟩ := h
  exact notSettledAt settled (request ▸ hl)

end

/-! ## What a bank that moves is at the end of its event -/

/-- A raised bank that is not settled at ACTIVE is WAKING (R78). -/
theorem wake_ends {s t : State} {b : BankNo} {o : Rest} (ends : EventEnd (s.wake b o) t)
    (hu : (s.banks[b].settled && s.banks[b].reported == .active) = false) :
    t.bankState b = .waking o ∧ t.banks[b].request = .active ∧
      t.banks[b].settleTimer = .running s.regs.settleLimit.toNat 0 ∧
      t.banks[b].wakeCount = satInc s.banks[b].wakeCount ∧ t.banks[b].lost = s.banks[b].lost := by
  have record := State.wake_bank s b o hu
  have kept := (ends.bank b).stays (by rw [record]; rfl)
  rw [State.bankState, kept, record]
  exact ⟨rfl, rfl, rfl, rfl, rfl⟩

/-- A lowered bank that is not settled at its target is DESCENDING (R83, R84). -/
theorem descend_ends {s t : State} {b : BankNo} {o : Rest} (ends : EventEnd (s.descend b o) t)
    (hu : (s.banks[b].settled && s.banks[b].reported == o.level.status) = false) :
    t.bankState b = .descending o ∧ t.banks[b].request = o.level ∧
      t.banks[b].settleTimer = .running s.regs.settleLimit.toNat 0 ∧ t.banks[b].lost = s.banks[b].lost ∧
      t.banks[b].wakeCount = s.banks[b].wakeCount := by
  have record := State.descend_bank s b o hu
  obtain ⟨kept, -⟩ := (ends.bank b).descending o (by rw [record])
  rw [State.bankState, kept, record]
  exact ⟨rfl, rfl, rfl, rfl, rfl⟩

theorem stopped_of_notRunning {t : Timer} (h : t.isRunning = false) : t = .stopped := by
  cases t with
  | stopped => rfl
  | running limit elapsed => cases h

/-- No timer of a bank runs at the end of an event that leaves it neither ACTIVE nor RETAIN (R82, R84). -/
theorem finish_timersStopped {s pre : State} {released : Bool} {b : BankNo}
    (ha : (s.finish pre released).bankState b ≠ .active) (hr : (s.finish pre released).bankState b ≠ .retain) :
    (s.finish pre released).banks[b].idleTimer = .stopped ∧ (s.finish pre released).banks[b].offTimer = .stopped := by
  obtain ⟨idle, off⟩ := finish_timers s pre released b
  refine ⟨stopped_of_notRunning (idle.trans ?_), stopped_of_notRunning (off.trans ?_)⟩
  · simp [State.idleConditions, ha]
  · simp [State.offConditions, hr]

/-! ## The expiries -/

theorem addCause_rest {s : State} {b : BankNo} {o : Rest} (f : DrainCauses → DrainCauses) (hf : s.fitted b = true)
    (hb : s.bankState b = o.state) (hl : s.lineCount b ≠ 0) (hd : s.drainWanted b = false) :
    s.addCause b f = (s.setCauses b f).wake b o := by
  rw [State.addCause, if_neg hl, hd, if_neg Bool.false_ne_true]
  exact demand_rest (s := s.setCauses b f) hf hb

section
variable {s : State} {b : BankNo}

theorem idleTimerExpiry_lowers (hb : s.bankState b = .active) (hr : s.banks[b].idleTimer.isRunning = true) :
    exec (.idleTimerExpiry b) s = .next ((s.descend b .retain).finish s false) := if_pos ⟨hb, hr⟩

theorem offTimerExpiry_lowers (hb : s.bankState b = .retain) (hr : s.banks[b].offTimer.isRunning = true) :
    exec (.offTimerExpiry b) s = .next ((s.descend b .off).finish s false) := if_pos ⟨hb, hr⟩

theorem ageExpiry_flags (h : s.ageExpired b = true) :
    exec (.ageExpiry b) s = .next ((s.addCause b fun c => { c with age := true }).finish s false) := if_pos h

end

/-- Settles O38: an expiry lowers its bank, or adds the AGE cause, and the end of the event leaves the descent, the rise and the
cause; a timer that does not run and an indication that is false give nothing. -/
theorem expiriesLowerOrFlagTheBank : Obligations.ExpiriesLowerOrFlagTheBank := by
  intro s b
  refine ⟨fun hb hr hh => ?_, fun hb hr hh => ?_, fun ha => ?_, fun hn => ?_, fun hn => ?_, fun hn => ?_, fun hn => ?_,
    fun hn => ?_⟩
  · refine ⟨_, idleTimerExpiry_lowers hb hr, ?_⟩
    obtain ⟨state, request, timer, lost, wakes⟩ := descend_ends (finish_eventEnd (s.descend b .retain) s false)
      (active_notSettledAt hh hb (level := .retain) (by decide))
    obtain ⟨idle, -⟩ := finish_timersStopped (by rw [state]; nofun) (by rw [state]; nofun)
    exact ⟨state, request, timer, idle, lost, wakes⟩
  · refine ⟨_, offTimerExpiry_lowers hb hr, ?_⟩
    obtain ⟨state, request, timer, lost, wakes⟩ := descend_ends (finish_eventEnd (s.descend b .off) s false)
      (rest_notSettledAt hh (o := .retain) hb (level := .off) (by decide))
    obtain ⟨-, off⟩ := finish_timersStopped (by rw [state]; nofun) (by rw [state]; nofun)
    exact ⟨state, request, timer, off, lost, wakes⟩
  · refine ⟨_, ageExpiry_flags ha, ?_⟩
    have lines := State.lineCount_of_ageExpired ha
    have ends := finish_eventEnd (s.addCause b fun c => { c with age := true }) s false
    constructor
    · obtain ⟨age, -⟩ := ends.causes b
      exact age (by rw [State.addCause_causes _ lines, updAt_self])
    · intro hf hb hd hh
      rw [addCause_rest (o := .retain) _ hf hb lines hd] at ends ⊢
      obtain ⟨state, request, -, wakes, -⟩ :=
        wake_ends ends (rest_notSettledAt hh (o := .retain) hb (level := .active) (by decide))
      exact ⟨state, request, wakes⟩
  · simp only [exec, execAccessTimeout, hn]
  · exact if_neg (by rw [hn, Bool.and_false]; exact Bool.false_ne_true)
  · exact if_neg fun h => by rw [hn] at h; nomatch h.2
  · exact if_neg fun h => by rw [hn] at h; nomatch h.2
  · exact if_neg (Bool.eq_false_iff.mp hn)

end Sys2Proof.Machine

/-! The seven orders to a bank: their checks (R89, Table 4-4), and WAKE, RETRY, RETAIN and OFF (R90 to R93, R95). -/

namespace Sys2Proof.Machine

/-! ## The checks on the bank number (R89) -/

section
variable {s : State} {bank : Byte} (action : BankNo → State) (hw : s.awaitRise = false)
include hw

theorem order_badarg (hb : 8 ≤ bank.toNat) :
    s.onFrame (.next (s.order bank action)) = .next (s.replyOrder .badarg) := by
  rw [State.onFrame_taken hw, State.order, eighth_eq_none hb]

theorem order_unfitted {b : BankNo} (hb : bank.toNat = b.val) (hf : s.fitted b = false) :
    s.onFrame (.next (s.order bank action)) = .next (s.replyOrder .refused) := by
  rw [State.onFrame_taken hw, State.order, hb, eighth_eq_some]
  simp only [hf, Bool.false_eq_true, if_false]

/-- An order to a fitted bank is carried out by the bank's state. -/
theorem order_taken {b : BankNo} (hb : bank.toNat = b.val) (hf : s.fitted b = true) :
    s.onFrame (.next (s.order bank action)) = .next (action b) := by
  rw [State.onFrame_taken hw, State.order, hb, eighth_eq_some]
  simp only [hf, if_true]

end

/-! ## The states that refuse an order -/

section
variable {s : State} {b : BankNo}

theorem orderWake_refused (h : (s.bankState b).isStuck = true) : s.orderWake b = s.replyOrder .refused := by
  unfold State.orderWake
  cases hb : s.bankState b with
  | stuck o => rfl
  | _ => rw [hb] at h; cases h

theorem orderRetain_refused (h : s.bankState b ≠ .active) : s.orderRetain b = s.replyOrder .refused := if_pos h

theorem orderOff_refused (h : (s.bankState b ≠ .active ∧ s.bankState b ≠ .retain) ∨ s.lineCount b ≠ 0 ∨ s.entryCount b ≠ 0) :
    s.orderOff b = s.replyOrder .refused := by
  refine if_neg fun ⟨awake, lines, entries⟩ => ?_
  rcases h with ⟨active, retain⟩ | h | h
  · exact awake.elim active retain
  · exact h lines
  · exact h entries

theorem orderRetry_refused (h : (s.bankState b).isStuck = false) : s.orderRetry b = s.replyOrder .refused := by
  unfold State.orderRetry
  cases hb : s.bankState b with
  | stuck o => rw [hb] at h; cases h
  | _ => rfl

theorem orderDiscard_refused (h : (s.bankState b).isStuck = false) : s.orderDiscard b = s.replyOrder .refused :=
  if_neg (Bool.eq_false_iff.mp h)

theorem orderClear_refused (h : s.lineCount b ≠ 0 ∨ s.entryCount b ≠ 0 ∨
    (s.bankState b ≠ .active ∧ s.bankState b ≠ .off ∧ s.bankState b ≠ .retain)) :
    s.orderClear b = s.replyOrder .refused := by
  unfold State.orderClear
  split
  · rfl
  next hn =>
    have moving : s.bankState b ≠ .active ∧ s.bankState b ≠ .off ∧ s.bankState b ≠ .retain := by
      rcases h with h | h | h
      · exact absurd (.inl h) hn
      · exact absurd (.inr h) hn
      · exact h
    obtain ⟨active, off, retain⟩ := moving
    cases hb : s.bankState b with
    | off => exact absurd hb off
    | retain => exact absurd hb retain
    | active => exact absurd hb active
    | _ => rfl

theorem orderUnlost_refused (h : (s.bankState b).isClearing = true) : s.orderUnlost b = s.replyOrder .refused := if_pos h

end

/-- Settles O55: the bank number's checks are the same for every order, and each order names the states that it refuses. -/
theorem refusedOrdersChangeOnlyTheFrame : Obligations.RefusedOrdersChangeOnlyTheFrame := by
  intro s bank hw
  refine ⟨fun c hc => ?_, fun b hb hf => ?_⟩
  · obtain ⟨action, order⟩ : ∃ action, exec c s = s.onFrame (.next (s.order bank action)) := by
      simp only [List.mem_cons, List.not_mem_nil, or_false] at hc
      rcases hc with rfl | rfl | rfl | rfl | rfl | rfl | rfl <;> exact ⟨_, rfl⟩
    rw [order]
    exact ⟨order_badarg action hw, fun b hb hf => order_unfitted action hw hb hf⟩
  · have taken := fun action => order_taken action hw hb hf
    refine ⟨fun h => ?_, fun h => ?_, fun h => ?_, fun h => ⟨?_, ?_⟩, fun h => ?_, fun h => ?_⟩
    · exact (taken s.orderWake).trans (congrArg _ (orderWake_refused h))
    · exact (taken s.orderRetain).trans (congrArg _ (orderRetain_refused h))
    · exact (taken s.orderOff).trans (congrArg _ (orderOff_refused h))
    · exact (taken s.orderRetry).trans (congrArg _ (orderRetry_refused h))
    · exact (taken s.orderDiscard).trans (congrArg _ (orderDiscard_refused h))
    · exact (taken s.orderClear).trans (congrArg _ (orderClear_refused h))
    · exact (taken s.orderUnlost).trans (congrArg _ (orderUnlost_refused h))

/-! ## RETAIN and OFF -/

/-- Settles O57: a bank that an order lowers is not settled at its new level, so that the end of the event finds it
DESCENDING. -/
theorem retainAndOffLowerTheBank : Obligations.RetainAndOffLowerTheBank := by
  intro s bank b hw hb hf
  have taken := fun action => order_taken action hw hb hf
  refine ⟨fun active => ⟨fun flight => ?_, fun flight work => ?_, fun flight entries flag hh => ?_⟩,
    fun awake lines entries => ⟨fun flight => ?_, fun flight hh => ?_⟩⟩
  · refine (taken s.orderRetain).trans (congrArg _ ?_)
    rw [State.orderRetain, if_neg (not_not.mpr active), if_pos flight]
    rfl
  · refine (taken s.orderRetain).trans (congrArg _ ?_)
    rw [State.orderRetain, if_neg (not_not.mpr active), if_neg (Bool.eq_false_iff.mp flight), if_pos work]
    rfl
  · have lowered : s.orderRetain b = s.accept (s.descend b .retain) := by
      rw [State.orderRetain, if_neg (not_not.mpr active), if_neg (Bool.eq_false_iff.mp flight),
        if_neg (by simp [entries, flag])]
    refine ⟨_, (taken s.orderRetain).trans (congrArg _ lowered), rfl, ?_⟩
    obtain ⟨state, request, timer, lost, -⟩ := descend_ends (finish_eventEnd (s.descend b .retain) s false)
      (active_notSettledAt hh active (level := .retain) (by decide))
    exact ⟨state, request, timer, lost⟩
  · refine (taken s.orderOff).trans (congrArg _ ?_)
    rw [State.orderOff, if_pos ⟨awake, lines, entries⟩, if_pos flight]
    rfl
  · have lowered : s.orderOff b = s.accept (s.descend b .off) := by
      rw [State.orderOff, if_pos ⟨awake, lines, entries⟩, if_neg (Bool.eq_false_iff.mp flight)]
    have unsettled : (s.banks[b].settled && s.banks[b].reported == .off) = false := by
      rcases awake with h | h
      · exact active_notSettledAt hh h (level := .off) (by decide)
      · exact rest_notSettledAt hh (o := .retain) h (level := .off) (by decide)
    refine ⟨_, (taken s.orderOff).trans (congrArg _ lowered), rfl, ?_⟩
    obtain ⟨state, request, timer, lost, -⟩ := descend_ends (finish_eventEnd (s.descend b .off) s false) unsettled
    exact ⟨state, request, timer, lost⟩

/-! ## WAKE and RETRY -/

/-- The state that a wake's settle event gives its bank (R80, R81). -/
def wokenState (s : State) (b : BankNo) (o : Rest) : BankState :=
  match o with
  | .retain => if s.clear.wanted[b] then .clearing .retain else .active
  | .off => if s.regs.policy[b].clearOnWake || s.clear.wanted[b] then .clearing .off else .active

theorem settleWaking_state (s : State) (b : BankNo) (o : Rest) :
    (s.settleWaking b o).bankState b = wokenState s b o := by
  cases o with
  | retain =>
    simp only [State.settleWaking, wokenState]
    split
    · rw [State.bankState, State.enterClearing_banks, updAt_self]
    · rw [State.bankState, State.setBank_same]
  | off =>
    simp only [State.settleWaking, wokenState]
    split
    · rw [State.bankState, State.enterClearing_banks, updAt_self]
    · rw [State.bankState, State.setBank_same]

/-- The end of the event leaves the bank of a wake's settle event as it is, but for its timers. -/
theorem settleWaking_ends {s t : State} {b : BankNo} {o : Rest} (ends : EventEnd (s.settleWaking b o) t) :
    TimersOnly (s.settleWaking b o).banks[b] t.banks[b] := by
  obtain ⟨-, -, -, -, -, -, -, awake⟩ := settleWaking_bank s b o
  exact (ends.bank b).stays (by rcases awake with e | e <;> rw [e] <;> rfl)

/-- The state in which a raised bank awaits its settle event (R78). -/
def raised (s : State) (b : BankNo) (o : Rest) : State :=
  (s.requestLevel b .active (.waking o)).setBank b fun k => { k with wakeCount := satInc k.wakeCount }

theorem raised_bank (s : State) (b : BankNo) (o : Rest) : (raised s b o).banks[b] =
    { s.banks[b] with
      state := .waking o, request := .active, settleTimer := .start s.regs.settleLimit.toNat, idleTimer := .stopped
      offTimer := .stopped, pendingWake := false, wakeCount := satInc s.banks[b].wakeCount } := by
  rw [raised, State.setBank_same, State.requestLevel_banks, updAt_self]

/-- A bank whose lines report settled at ACTIVE when it is raised takes its settle event at once (R74). -/
theorem wake_settled {s : State} {b : BankNo} {o : Rest} (hs : s.banks[b].settled = true)
    (hr : s.banks[b].reported = .active) : s.wake b o = (raised s b o).settleWaking b o := by
  have settled : (raised s b o).banks[b].atRequest = true := by
    rw [raised_bank, BankRecord.atRequest, hs, hr]
    rfl
  exact if_pos settled

/-- So it is at the end of its event (R80, R81, R93). -/
theorem wake_settled_ends {s t : State} {b : BankNo} {o : Rest} (ends : EventEnd (s.wake b o) t)
    (hs : s.banks[b].settled = true) (hr : s.banks[b].reported = .active) :
    t.banks[b].request = .active ∧ t.banks[b].settleTimer = .stopped ∧
      t.banks[b].wakeCount = satInc s.banks[b].wakeCount ∧
      t.bankState b = wokenState s b o := by
  have state := settleWaking_state (raised s b o) b o
  obtain ⟨-, -, -, request, timer, wakes, -, -⟩ := settleWaking_bank (raised s b o) b o
  rw [raised_bank] at request wakes
  rw [wake_settled hs hr] at ends
  have kept := settleWaking_ends ends
  exact ⟨kept.request.trans request, kept.settleTimer.trans timer, kept.wakeCount.trans wakes, kept.state.trans state⟩

/-- An ACTIVE bank whose idle timer is started afresh stays ACTIVE (R90). -/
theorem holdAwake_ends {s : State} {b : BankNo} (hb : s.bankState b = .active) :
    ((s.holdAwake b).finish s false).bankState b = .active ∧
      ((s.holdAwake b).finish s false).banks[b].wakeCount = s.banks[b].wakeCount ∧
      ((s.holdAwake b).finish s false).regs = s.regs ∧ ((s.holdAwake b).finish s false).IdleTimerAfresh b := by
  have record : (s.holdAwake b).banks[b] = { s.banks[b] with idleTimer := .stopped } := State.setBank_same _ _ _
  have ends := finish_eventEnd (s.holdAwake b) s false
  have kept : TimersOnly (s.holdAwake b).banks[b] ((s.holdAwake b).finish s false).banks[b] :=
    (ends.bank b).stays (by rw [record, ← State.bankState, hb]; rfl)
  have fresh : IdleFresh b ((s.holdAwake b).untilGrant s false).grant :=
    IdleFresh.steps (s := s.holdAwake b) (.inl (by rw [record]))
      ((State.untilGrant_steps _ s false).trans (State.grant_steps _))
  refine ⟨kept.state.trans ?_, kept.wakeCount.trans (by rw [record]), ends.regs, fresh.afterGrant s⟩
  rw [record]
  exact hb

/-- Settles O56: WAKE and RETRY by the state of the bank, and what the end of the event keeps of a bank that it finds raised. -/
theorem wakeAndRetryRaiseTheBank : Obligations.WakeAndRetryRaiseTheBank := by
  intro s bank b hw hb hf
  have wakes := order_taken s.orderWake hw hb hf
  have retries := order_taken s.orderRetry hw hb hf
  refine ⟨fun o hs hh => ?_, fun o hs => ?_, fun o hs => ?_, fun hs idle => ?_, fun hs idle => ?_, fun o hs settled reported => ?_,
    fun o hs unsettled => ?_⟩
  · have accepted : s.orderWake b = s.accept (s.wake b o) := by
      unfold State.orderWake
      rw [hs]
      cases o <;> rfl
    refine ⟨_, wakes.trans (congrArg _ accepted), rfl, ?_⟩
    obtain ⟨state, request, timer, count, lost⟩ := wake_ends (finish_eventEnd (s.wake b o) s false)
      (rest_notSettledAt hh hs (level := .active) (by cases o <;> decide))
    exact ⟨state, request, timer, count, lost⟩
  · refine wakes.trans (congrArg _ ?_)
    rw [State.orderWake, hs]
    rfl
  · refine wakes.trans (congrArg _ ?_)
    rcases hs with hs | hs <;> rw [State.orderWake, hs] <;> rfl
  · refine wakes.trans (congrArg _ ?_)
    rw [State.orderWake, hs]
    simp only [idle]
    rfl
  · have accepted : s.orderWake b = s.accept (s.holdAwake b) := by
      rw [State.orderWake, hs]
      simp only [idle, if_true]
    obtain ⟨state, count, regs, fresh⟩ := holdAwake_ends hs
    refine ⟨_, wakes.trans (congrArg _ accepted), rfl, state, count, fun conditions => ?_⟩
    have timer : ((s.holdAwake b).finish s false).banks[b].idleTimer = _ := fresh.trans (if_pos conditions)
    rw [regs] at timer
    exact timer
  · have accepted : s.orderRetry b = s.accept (s.wake b o) := by rw [State.orderRetry, hs]
    have ends := finish_eventEnd (s.wake b o) s false
    obtain ⟨request, timer, count, state⟩ := wake_settled_ends ends settled reported
    exact ⟨_, retries.trans (congrArg _ accepted), rfl, request, timer, count,
      ends.faults.trans (State.wake_faults ..), state⟩
  · have accepted : s.orderRetry b = s.accept (s.wake b o) := by rw [State.orderRetry, hs]
    have ends := finish_eventEnd (s.wake b o) s false
    obtain ⟨state, request, timer, count, lost⟩ := wake_ends ends unsettled
    exact ⟨_, retries.trans (congrArg _ accepted), rfl, state, request, timer, count, lost,
      ends.faults.trans (State.wake_faults ..)⟩

end Sys2Proof.Machine

/-! The writes of the policy registers (R85, R194). -/

namespace Sys2Proof.Machine

section
variable (s : State) (b : BankNo) (f : Policy → Policy)

theorem setPolicy_same : (s.setPolicy b f).regs.policy[b] = f s.regs.policy[b] := updAt_self _ _ _

theorem setPolicy_other {c : BankNo} (h : c ≠ b) : (s.setPolicy b f).regs.policy[c] = s.regs.policy[c] :=
  updAt_ne _ _ (Ne.symm h)

/-- The timers of the bank follow their conditions under the new policy: one that starts counts toward the new delay (R85). -/
theorem setPolicy_bank : ((s.setPolicy b f).refreshTimersOf b).banks[b] = { s.banks[b] with
    idleTimer :=
      if ((s.setPolicy b f).refreshTimersOf b).idleConditions b then
        if s.banks[b].idleTimer.isRunning then s.banks[b].idleTimer else .running (f s.regs.policy[b]).retainDelay.toNat 0
      else .stopped
    offTimer :=
      if ((s.setPolicy b f).refreshTimersOf b).offConditions b then
        if s.banks[b].offTimer.isRunning then s.banks[b].offTimer else .running (f s.regs.policy[b]).offDelay.toNat 0
      else .stopped } := by
  obtain ⟨idle, off⟩ := refreshTimersOf_conditions (s.setPolicy b f) b b
  have record : ((s.setPolicy b f).refreshTimersOf b).banks[b] = refreshedRecord (s.setPolicy b f) b :=
    State.setBank_same _ _ _
  rw [record, idle, off, refreshedRecord, setPolicy_same]
  rfl

end

/-- The fields that BANK POLICY A writes (R194). -/
def policyA (v : BitVec 16) (p : Policy) : Policy :=
  { p with retainDelay := v.setWidth 12, offAllowed := v.getLsbD 12, clearOnWake := v.getLsbD 13, lostCheck := v.getLsbD 14 }

/-- The field that BANK POLICY B writes (R194). -/
def policyB (v : BitVec 16) (p : Policy) : Policy := { p with offDelay := v.setWidth 12 }

/-- The low twelve bits of a written word (R194). -/
theorem setWidth_eq_extractLsb' (v : BitVec 16) : v.setWidth 12 = v.extractLsb' 0 12 := by
  ext i hi
  simp

section
variable {s : State} (b : BankNo) (hw : s.awaitRise = false) {v : BitVec 16}
include hw

theorem exec_bankPolicyAWrite (h : v.toNat < 32768) : exec (.bankPolicyAWrite b v) s =
    .next (((s.setPolicy b (policyA v)).refreshTimersOf b).replyWrite .done) := by
  refine (State.onFrame_taken hw _).trans (congrArg Host.Outcome.next ?_)
  rw [State.writePolicyA, State.writeInRange, if_pos (decide_eq_true h)]
  rfl

theorem exec_bankPolicyAWrite_badarg (h : 32768 ≤ v.toNat) :
    exec (.bankPolicyAWrite b v) s = .next (s.replyWrite .badarg) := by
  refine (State.onFrame_taken hw _).trans (congrArg Host.Outcome.next ?_)
  rw [State.writePolicyA, State.writeInRange, decide_eq_false (Nat.not_lt.mpr h), if_neg Bool.false_ne_true]

theorem exec_bankPolicyBWrite (h : v.toNat < 4096) : exec (.bankPolicyBWrite b v) s =
    .next (((s.setPolicy b (policyB v)).refreshTimersOf b).replyWrite .done) := by
  refine (State.onFrame_taken hw _).trans (congrArg Host.Outcome.next ?_)
  rw [State.writePolicyB, State.writeInRange, if_pos (decide_eq_true h)]
  rfl

theorem exec_bankPolicyBWrite_badarg (h : 4096 ≤ v.toNat) :
    exec (.bankPolicyBWrite b v) s = .next (s.replyWrite .badarg) := by
  refine (State.onFrame_taken hw _).trans (congrArg Host.Outcome.next ?_)
  rw [State.writePolicyB, State.writeInRange, decide_eq_false (Nat.not_lt.mpr h), if_neg Bool.false_ne_true]

end

/-- Settles O54: a policy write changes the policy of its bank, and then that bank's timers follow their conditions. -/
theorem policyWritesStartAndStopTimers : Obligations.PolicyWritesStartAndStopTimers := by
  intro s b v hw
  have others : ∀ (f : Policy → Policy) (c : BankNo), c ≠ b →
      ((s.setPolicy b f).refreshTimersOf b).regs.policy[c] = s.regs.policy[c] ∧
        ((s.setPolicy b f).refreshTimersOf b).banks[c] = s.banks[c] := fun f c h =>
    ⟨setPolicy_other s b f h, State.setBank_other _ _ (Ne.symm h)⟩
  refine ⟨exec_bankPolicyAWrite_badarg b hw, exec_bankPolicyBWrite_badarg b hw, fun h => ?_, fun h => ?_⟩
  · refine ⟨_, exec_bankPolicyAWrite b hw h, rfl, rfl, rfl, others (policyA v), ?_, ?_⟩
    · rw [← setWidth_eq_extractLsb']
      exact setPolicy_same s b (policyA v)
    · rw [← setWidth_eq_extractLsb']
      exact setPolicy_bank s b (policyA v)
  · refine ⟨_, exec_bankPolicyBWrite b hw h, rfl, rfl, rfl, others (policyB v), ?_, ?_⟩
    · rw [← setWidth_eq_extractLsb']
      exact setPolicy_same s b (policyB v)
    · rw [← setWidth_eq_extractLsb']
      exact setPolicy_bank s b (policyB v)

end Sys2Proof.Machine

/-! The write of CONFIG (R191, R198, R98). -/

namespace Sys2Proof.Machine

/-! ## The fields of the written word (Table 10-5) -/

theorem banksFitted_field (v : BitVec 16) : v.extractLsb' 0 4 = BitVec.ofNat 4 (v.toNat % 256) := by
  apply BitVec.eq_of_toNat_eq
  rw [BitVec.extractLsb'_toNat, BitVec.toNat_ofNat, Nat.shiftRight_zero]
  omega

theorem tickDiv_field (v : BitVec 16) : v.extractLsb' 8 7 = BitVec.ofNat 7 (v.toNat / 256) := by
  apply BitVec.eq_of_toNat_eq
  rw [BitVec.extractLsb'_toNat, BitVec.toNat_ofNat, Nat.shiftRight_eq_div_pow]

theorem banksFitted_toNat {v : BitVec 16} (h : v.toNat % 256 ≤ 8) : (v.extractLsb' 0 4).toNat = v.toNat % 256 := by
  rw [banksFitted_field, BitVec.toNat_ofNat]
  omega

theorem banksFitted_eq_iff {v : BitVec 16} (h : v.toNat % 256 ≤ 8) (n : BitVec 4) :
    v.extractLsb' 0 4 = n ↔ v.toNat % 256 = n.toNat := by
  rw [← banksFitted_toNat h]
  exact BitVec.toNat_inj.symm

theorem configInRange_iff (v : BitVec 16) : State.configInRange v = true ↔
    1 ≤ v.toNat % 256 ∧ v.toNat % 256 ≤ 8 ∧ 1 ≤ v.toNat / 256 ∧ v.toNat / 256 ≤ 64 := by
  simp only [State.configInRange, Bool.and_eq_true, decide_eq_true_eq, and_assoc]

theorem mayRefit_iff (s : State) : s.mayRefit = true ↔
    (∀ b : BankNo, s.bankState b = .off) ∧ s.store.fill = 0 ∧ s.queue = [] := by
  simp [State.mayRefit, and_assoc]

/-! ## What the write does -/

section
variable {s : State} {v : BitVec 16} (hw : s.awaitRise = false)
include hw

theorem exec_configWrite : exec (.configWrite v) s = .next (s.writeConfig v) := State.onFrame_taken hw _

theorem exec_configWrite_badarg (h : State.configInRange v = false) :
    exec (.configWrite v) s = .next (s.replyWrite .badarg) := by
  rw [exec_configWrite hw, State.writeConfig, h, if_neg Bool.false_ne_true]

theorem exec_configWrite_same (h : State.configInRange v = true) (hf : v.extractLsb' 0 4 = s.regs.banksFitted) :
    exec (.configWrite v) s = .next ((s.setTickDiv v).replyWrite .done) := by
  rw [exec_configWrite hw, State.writeConfig, if_pos h, if_pos hf]

theorem exec_configWrite_refused (h : State.configInRange v = true) (hf : v.extractLsb' 0 4 ≠ s.regs.banksFitted)
    (hm : s.mayRefit = false) : exec (.configWrite v) s = .next (s.replyWrite .refused) := by
  rw [exec_configWrite hw, State.writeConfig, if_pos h, if_neg hf, hm, if_neg Bool.false_ne_true]

theorem exec_configWrite_refits (h : State.configInRange v = true) (hf : v.extractLsb' 0 4 ≠ s.regs.banksFitted)
    (hm : s.mayRefit = true) :
    exec (.configWrite v) s = .next ((((s.setTickDiv v).refit v).finish s false).replyWrite .done) := by
  rw [exec_configWrite hw, State.writeConfig, if_pos h, if_neg hf, if_pos hm]

end

/-! ## The refit of a part at rest -/

theorem fitBank_regions (old new : Nat) (s : State) (b : BankNo) : (s.fitBank old new b).regions = s.regions := by
  unfold State.fitBank
  split
  · rw [State.sampleAtRest_regions, State.setBank_regions]
  · rfl

theorem fitBank_clock (old new : Nat) (s : State) (b : BankNo) : (s.fitBank old new b).clock = s.clock := by
  unfold State.fitBank
  split
  · rw [State.sampleAtRest_clock, State.setBank_clock]
  · rfl

theorem refit_regions (s : State) (v : BitVec 16) : (s.refit v).regions = s.regions :=
  foldl_keeps State.regions (fitBank_regions _ _) _ _

theorem refit_clock (s : State) (v : BitVec 16) : (s.refit v).clock = s.clock := foldl_keeps State.clock (fitBank_clock _ _) _ _

theorem refit_regs (s : State) (v : BitVec 16) : (s.refit v).regs = { s.regs with banksFitted := v.extractLsb' 0 4 } :=
  foldl_keeps State.regs (fitBank_regs _ _) _ _

/-- A bank without the PRESSURE cause loses none when it becomes STUCK (R102). -/
theorem makeStuck_causes {s : State} {b : BankNo} (h : (s.causes[b]).pressure = false) :
    (s.makeStuck b).causes = s.causes := by
  unfold State.makeStuck
  split
  · have withdrawn : updAt s.causes b (fun c => { c with pressure := false }) = s.causes :=
      updAt_fixed _ _ _ (by rw [← h])
    simpa using withdrawn
  · rfl

/-- Nor does a refit withdraw a cause where no bank has one. -/
theorem refit_causes {s : State} (v : BitVec 16) (h : ∀ b : BankNo, (s.causes[b]).pressure = false) :
    (s.refit v).causes = s.causes := by
  refine List.foldlRecOn (motive := fun t : State => t.causes = s.causes) (List.finRange 8) _ rfl fun t ht b _ => ?_
  unfold State.fitBank State.sampleAtRest State.failBank
  split
  · dsimp only
    split
    · exact ht
    · rw [State.handFault_causes]
      have none : (((t.setBank b fun _ => BankRecord.reset).sampleLines b).causes[b]).pressure = false := by
        rw [State.sampleLines_causes, State.setBank_causes, ht]
        exact h b
      exact (makeStuck_causes none).trans ht
  · exact ht

/-- Where no bank holds a line, the end of an event gives no cause and moves no bank (R99, R105). -/
theorem TailEnd.lineless_kept {s t : State} (h : TailEnd s t) (hl : ∀ b, s.lineCount b = 0) :
    t.causes = s.causes ∧ ∀ b : BankNo, TimersOnly s.banks[b] t.banks[b] := by
  have causes : ∀ b : BankNo, t.causes[b] = s.causes[b] := fun b => h.lineless b (hl b)
  refine ⟨Vector.ext fun k hk => causes ⟨k, hk⟩, fun b => ?_⟩
  rcases h.moved b with kept | ⟨unset, set⟩
  · exact kept
  · rw [causes, unset] at set
    cases set

/-- A bank whose drain-wanted flag is clear has no PRESSURE cause (R99). -/
theorem pressure_of_unflagged {s : State} {b : BankNo} (h : s.drainWanted b = false) : (s.causes[b]).pressure = false := by
  unfold State.drainWanted DrainCauses.any at h
  simp only [Bool.or_eq_false_iff] at h
  obtain ⟨⟨⟨-, pressure⟩, -⟩, -⟩ := h
  exact pressure

theorem lineCount_of_fill {s : State} (h : s.store.fill = 0) (b : BankNo) : s.lineCount b = 0 := by
  rw [State.lineCount, LineStore.lineCount_eq_zero_iff]
  intro i
  rw [(LineStore.fill_eq_zero_iff _).1 h i]
  rfl

section
variable {s : State} (v : BitVec 16) (off : ∀ b : BankNo, s.bankState b = .off) (hs : s.store.fill = 0) (hq : s.queue = [])
include off hs hq

/-- In a part at rest nothing follows a refit: the records stay as it left them, without timers. -/
theorem refit_finish (b : BankNo) (u : State) (hu : u = (s.setTickDiv v).refit v) :
    (u.finish s false).banks[b] = { u.banks[b] with idleTimer := .stopped, offTimer := .stopped } ∧
      (s.FlagsHaveLines → (u.finish s false).causes = s.causes) := by
  have store : u.store = s.store := by rw [hu, refit_store]; rfl
  have empty : u.queue = [] := by
    rw [hu, (refit_kept (s := s.setTickDiv v) v hq).queue]
    exact hq
  have record : u.banks[b] = _ := hu ▸ refit_bank (s.setTickDiv v) v b
  have asleep : u.bankState b = .off ∨ u.bankState b = .stuck .off := by
    rw [State.bankState, record]
    split
    · rw [sampledRecord]
      dsimp only
      split
      · exact .inl rfl
      · exact .inr rfl
    · exact .inl (off b)
  have tail := finish_tail (pre := s) (released := false) (State.runQueue_empty false empty)
  obtain ⟨causes, kept⟩ := tail.lineless_kept (fun b => by rw [State.lineCount, store]; exact lineCount_of_fill hs b)
  constructor
  · have state : (u.finish s false).bankState b = u.bankState b := (kept b).state
    obtain ⟨idle, off⟩ : _ ∧ _ := finish_timersStopped (s := u) (pre := s) (released := false) (b := b)
      (by rw [state]; rcases asleep with e | e <;> rw [e] <;> nofun)
      (by rw [state]; rcases asleep with e | e <;> rw [e] <;> nofun)
    have timers : (u.finish s false).banks[b] = _ := kept b
    rw [idle, off] at timers
    exact timers
  · intro flags
    have unflagged : ∀ c : BankNo, s.drainWanted c = false := fun c =>
      Bool.eq_false_iff.mpr fun x => flags c x (lineCount_of_fill hs c)
    rw [causes, hu]
    exact refit_causes (s := s.setTickDiv v) v fun c => pressure_of_unflagged (unflagged c)

end

/-- The whole write, in a part at rest. -/
theorem exec_configWrite_rested {s : State} {v : BitVec 16} (hw : s.awaitRise = false) (h : State.configInRange v = true)
    (upper : v.toNat % 256 ≤ 8) (changes : v.extractLsb' 0 4 ≠ s.regs.banksFitted) (off : ∀ b : BankNo, s.bankState b = .off)
    (fill : s.store.fill = 0) (queue : s.queue = []) :
    ∃ t, exec (.configWrite v) s = .next t ∧ t.mgmt = some ⟨3, .done, [], false⟩ ∧
      t.regs = { s.regs with
        banksFitted := BitVec.ofNat 4 (v.toNat % 256), tickDiv := BitVec.ofNat 7 (v.toNat / 256) } ∧
      t.clock = { s.clock with divider := 0 } ∧ t.regions = s.regions ∧ (s.FlagsHaveLines → t.causes = s.causes) ∧
      (∀ b : BankNo, s.regs.banksFitted.toNat ≤ b.val ∧ b.val < v.toNat % 256 →
        t.banks[b] = sampledRecord s b ∧ t.faults.hold[b] = (!restsAtOff s b || s.faults.hold[b])) ∧
      ∀ b : BankNo, b.val < s.regs.banksFitted.toNat ∨ v.toNat % 256 ≤ b.val →
        t.banks[b] = { s.banks[b] with idleTimer := .stopped, offTimer := .stopped } ∧
        t.faults.hold[b] = s.faults.hold[b] := by
  refine ⟨_, exec_configWrite_refits hw h changes ((mayRefit_iff s).2 ⟨off, fill, queue⟩), rfl, ?_⟩
  have bank := refit_bank (s.setTickDiv v) v
  have hold := refit_hold (s.setTickDiv v) v
  have regs := refit_regs (s.setTickDiv v) v
  have regions := refit_regions (s.setTickDiv v) v
  have clock := refit_clock (s.setTickDiv v) v
  have finished := fun b => refit_finish v off fill queue b _ rfl
  generalize (s.setTickDiv v).refit v = u at *
  have ends := finish_eventEnd u s false
  have held : ∀ b : BankNo, (u.finish s false).faults.hold[b] = u.faults.hold[b] := fun b =>
    congrArg (fun f : FaultLog => f.hold[b]) ends.faults
  rw [banksFitted_toNat upper] at bank hold
  have unfit : ∀ b : BankNo, b.val < s.regs.banksFitted.toNat ∨ v.toNat % 256 ≤ b.val →
      ¬(s.regs.banksFitted.toNat ≤ b.val ∧ b.val < v.toNat % 256) := fun b keeps => by omega
  refine ⟨?_, ends.clock.trans clock, ends.regions.trans regions, (finished 0).2, fun b fits => ⟨?_, ?_⟩,
    fun b keeps => ⟨?_, ?_⟩⟩
  · refine ends.regs.trans (regs.trans ?_)
    rw [State.setTickDiv, tickDiv_field, banksFitted_field]
  · refine (finished b).1.trans ?_
    rw [(bank b).trans (if_pos fits)]
    rfl
  · exact (held b).trans ((hold b).trans (if_pos fits))
  · refine (finished b).1.trans ?_
    rw [(bank b).trans (if_neg (unfit b keeps))]
    rfl
  · exact (held b).trans ((hold b).trans (if_neg (unfit b keeps)))

/-- Settles O50: the checks on the word, and in a part at rest a refit that nothing follows. -/
theorem configWriteRefitsOnlyARestingPart : Obligations.ConfigWriteRefitsOnlyARestingPart := by
  intro s v hw
  constructor
  · intro h
    refine exec_configWrite_badarg hw (Bool.eq_false_iff.mpr fun x => ?_)
    rw [configInRange_iff] at x
    omega
  · intro lower upper divLower divUpper
    have inRange := (configInRange_iff v).2 ⟨lower, upper, divLower, divUpper⟩
    have unchanged := banksFitted_eq_iff upper s.regs.banksFitted
    refine ⟨fun same => ?_, fun other => ⟨fun busy => ?_, fun off fill queue => ?_⟩⟩
    · rw [exec_configWrite_same hw inRange (unchanged.2 same), State.setTickDiv, tickDiv_field]
      rfl
    · refine exec_configWrite_refused hw inRange (other ∘ unchanged.1) (Bool.eq_false_iff.mpr fun x => ?_)
      obtain ⟨off, fill, queue⟩ := (mayRefit_iff s).1 x
      rcases busy with ⟨b, hb⟩ | h | h
      · exact hb (off b)
      · exact h fill
      · exact h queue
    · exact exec_configWrite_rested hw inRange upper (other ∘ unchanged.1) off fill queue

end Sys2Proof.Machine

/-! A change of a bank's status lines that ends a transition, or is only read (R74 to R76, R79 to R81, R88). -/

namespace Sys2Proof.Machine

/-! ## The event of a change -/

section
variable {s : State} {b : BankNo} {level : StatusLevel} {settled : Bool}

theorem exec_statusLineChange_unfitted (hf : s.fitted b = false) :
    exec (.statusLineChange b level settled) s = .next (s.drive b level settled) :=
  if_neg (Bool.eq_false_iff.mp hf)

theorem exec_statusLineChange (hf : s.fitted b = true) :
    exec (.statusLineChange b level settled) s = .next ((s.drive b level settled).lineChange s b) := if_pos hf

theorem sampled_atRequest : ((s.drive b level settled).sampleLines b).banks[b].atRequest =
    (settled && level == s.banks[b].request.status) := by
  rw [drive_sampled]
  rfl

theorem lineChange_waking {o : Rest} (hb : s.bankState b = .waking o)
    (ha : (settled && level == s.banks[b].request.status) = true) : (s.drive b level settled).lineChange s b =
      (((s.drive b level settled).sampleLines b).settleWaking b o).finish s false := by
  have same : (s.drive b level settled).bankState b = .waking o := hb
  simp only [State.lineChange, same, sampled_atRequest, ha, if_true]

theorem lineChange_descending {o : Rest} (hb : s.bankState b = .descending o)
    (ha : (settled && level == s.banks[b].request.status) = true) : (s.drive b level settled).lineChange s b =
      (((s.drive b level settled).sampleLines b).settleDescending b o).finish s false := by
  have same : (s.drive b level settled).bankState b = .descending o := hb
  simp only [State.lineChange, same, sampled_atRequest, ha, if_true]

/-- A transition that the lines do not end, and a STUCK bank, only take the lines into the record (R75, R88). -/
theorem lineChange_read (h : ((s.bankState b).inTransition = true ∧ ¬(settled = true ∧ level = s.banks[b].request.status)) ∨
    (s.bankState b).isStuck = true) :
    (s.drive b level settled).lineChange s b = (s.drive b level settled).sampleLines b := by
  have unsettled : ¬(settled = true ∧ level = s.banks[b].request.status) →
      (settled && level == s.banks[b].request.status) = false := fun n => by simpa using n
  cases hb : s.bankState b with
  | waking o =>
    have same : (s.drive b level settled).bankState b = .waking o := hb
    rw [hb] at h
    obtain ⟨-, n⟩ := h.resolve_right nofun
    simp only [State.lineChange, same, sampled_atRequest, unsettled n, Bool.false_eq_true, if_false]
  | descending o =>
    have same : (s.drive b level settled).bankState b = .descending o := hb
    rw [hb] at h
    obtain ⟨-, n⟩ := h.resolve_right nofun
    simp only [State.lineChange, same, sampled_atRequest, unsettled n, Bool.false_eq_true, if_false]
  | stuck o =>
    have same : (s.drive b level settled).bankState b = .stuck o := hb
    simp only [State.lineChange, same]
  | _ =>
    rw [hb] at h
    rcases h with ⟨h, -⟩ | h <;> cases h

end

/-! ## The end of a wake -/

/-- The LOST flag that a wake's settle event leaves: set when the bank comes from OFF (R80, R81). -/
theorem settleWaking_lost (s : State) (b : BankNo) (o : Rest) :
    (s.settleWaking b o).banks[b].lost = (o == .off || s.banks[b].lost) := by
  cases o with
  | retain =>
    simp only [State.settleWaking]
    split <;> simp [State.enterClearing_banks, State.setBank]
  | off =>
    simp only [State.settleWaking]
    split <;> simp [State.enterClearing_banks, State.setBank]

theorem settleWaking_irqLost (s : State) (b : BankNo) : (s.settleWaking b .off).irq.lost = true := by
  simp only [State.settleWaking]
  split <;> rfl

/-- What the lines leave of the bank whose wake they end (R80, R81). -/
theorem waking_ends {s t : State} {b : BankNo} {o : Rest}
    (ends : EventEnd (((s.drive b .active true).sampleLines b).settleWaking b o) t) :
    t.banks[b].lost = (o == .off || s.banks[b].lost) ∧
      t.banks[b].settleTimer = .stopped ∧ t.banks[b].wakeCount = s.banks[b].wakeCount ∧
      t.bankState b = wokenState s b o ∧ t.faults = s.faults := by
  have kept := settleWaking_ends ends
  have state := settleWaking_state ((s.drive b .active true).sampleLines b) b o
  have lost := settleWaking_lost ((s.drive b .active true).sampleLines b) b o
  obtain ⟨-, -, -, -, timer, wakes, -, -⟩ := settleWaking_bank ((s.drive b .active true).sampleLines b) b o
  rw [drive_sampled] at lost wakes
  exact ⟨kept.lost.trans lost, kept.settleTimer.trans timer, kept.wakeCount.trans wakes, kept.state.trans state,
    ends.faults.trans (State.settleWaking_faults ..)⟩

theorem updAt_updAt {α : Type} {n : Nat} {v : Vector α n} {i : Fin n} {f g h : α → α} (e : g (f v[i]) = h v[i]) :
    updAt (updAt v i f) i g = updAt v i h := by
  apply Vector.ext
  intro k hk
  rw [updAt_getElem, updAt_getElem, updAt_getElem]
  split
  next x =>
    subst x
    exact e
  · rfl

theorem isRelease_of_active {pre s : State} {b : BankNo} (hp : pre.bankState b ≠ .active) (hs : s.bankState b = .active) :
    State.isRelease pre s = true := by
  have entered : State.enteredActive pre s = true :=
    List.any_eq_true.mpr ⟨b, List.mem_finRange b, by simp [hp, hs]⟩
  simp [State.isRelease, entered]

/-- A bank that enters ACTIVE brings one release walk, where every bank agrees with its lines (R60). -/
theorem entersActive_walked {s u : State} {b : BankNo} (hs : ∀ c, s.HandshakeOf c) (hb : s.bankState b ≠ .active)
    (ho : ∀ c : BankNo, b ≠ c → u.banks[c] = s.banks[c]) (hu : u.HandshakeOf b) (ha : u.bankState b = .active)
    (hf : u.faults = s.faults) (hp : u.pins.fltpass = s.pins.fltpass) :
    (u.finish s false).QueueIsThatOf u.releaseWalk := by
  refine (finish_afterQueue (runQueue_walked (State.becameFrozen_same (by rw [hf]) hp) ?_ fun c => ?_)).queueIsThatOf
  · rw [Bool.false_or]
    exact isRelease_of_active hb ha
  · by_cases e : b = c
    · exact e ▸ hu
    · exact handshake_congr (ho c e) (hs c)

/-- So does the end of a wake that takes its bank to ACTIVE (R60, R80, R81). -/
theorem activated_walked {s u : State} {b : BankNo} {o : Rest} {f : BankRecord → BankRecord} (hs : ∀ c, s.HandshakeOf c)
    (hb : s.bankState b = .waking o) (hu : u.banks = updAt s.banks b f)
    (hk : f s.banks[b] = { s.banks[b] with
      state := .active, settleTimer := .stopped, reported := .active, settled := true, lost := (f s.banks[b]).lost })
    (hf : u.faults = s.faults) (hp : u.pins.fltpass = s.pins.fltpass) :
    (u.finish s false).QueueIsThatOf u.releaseWalk := by
  have record : u.banks[b] = _ := (by rw [hu, updAt_self] : u.banks[b] = f s.banks[b]).trans hk
  have state : u.bankState b = .active := by rw [State.bankState, record]
  refine entersActive_walked hs (by rw [hb]; nofun) (fun c e => by rw [hu, updAt_ne _ _ e]) ?_ state hf hp
  have waking := hs b
  unfold State.HandshakeOf at *
  rw [hb] at waking
  obtain ⟨request, -⟩ := waking
  rw [state, record]
  exact ⟨request, by rw [BankRecord.atRequest, request]; rfl, rfl⟩

/-- The lines are read into a record, and the record changes. -/
theorem sampled_setBank {s : State} {b : BankNo} {level : StatusLevel} {settled : Bool} {f g : BankRecord → BankRecord}
    (h : f { s.banks[b] with reported := level, settled := settled } = g s.banks[b]) :
    ((s.drive b level settled).sampleLines b).setBank b f = { s.drive b level settled with banks := updAt s.banks b g } := by
  have read := drive_sampled s b level settled
  rw [State.sampleLines, State.setBank_same] at read
  have twice := updAt_updAt (v := s.banks) (i := b) (g := f) (h := g) (f := fun k =>
    { k with reported := (s.drive b level settled).pins.pstat[b], settled := (s.drive b level settled).pins.pset[b] })
    ((congrArg f read).trans h)
  exact congrArg (fun banks : Vector BankRecord 8 => { s.drive b level settled with banks := banks }) twice

/-! ## The end of a descent -/

/-- A bank's LOST flag is `lost`, and the bank would not be settled at ACTIVE: a rise of it leaves the flag alone (R78, R81). -/
structure LostStands (b : BankNo) (lost : Bool) (s : State) : Prop where
  flag : s.banks[b].lost = lost
  unsettled : (s.banks[b].settled && s.banks[b].reported == .active) = false

namespace LostStands

variable {b : BankNo} {lost : Bool} {s t : State}

theorem of_record (h : LostStands b lost s) (hl : t.banks[b].lost = s.banks[b].lost)
    (hs : t.banks[b].settled = s.banks[b].settled) (hr : t.banks[b].reported = s.banks[b].reported) :
    LostStands b lost t :=
  ⟨hl.trans h.flag, by rw [hs, hr]; exact h.unsettled⟩

theorem of_bank (h : LostStands b lost s) (hb : t.banks[b] = s.banks[b]) : LostStands b lost t :=
  h.of_record (by rw [hb]) (by rw [hb]) (by rw [hb])

theorem of_banks (h : LostStands b lost s) (hb : t.banks = s.banks) : LostStands b lost t := h.of_bank (by rw [hb])

theorem wake (h : LostStands b lost s) (o : Rest) : LostStands b lost (s.wake b o) := by
  have record := State.wake_bank s b o h.unsettled
  exact h.of_record (by rw [record]) (by rw [record]) (by rw [record])

theorem step (h : LostStands b lost s) (k : EndStep s t) : LostStands b lost t := by
  cases k with
  | wake c o hf hc =>
    by_cases e : c = b
    · subst e
      exact h.wake o
    · exact h.of_bank (State.wake_other s o e)
  | pendWake c o hc =>
    by_cases e : c = b
    · subst e
      have record := State.setBank_same s c fun k => { k with pendingWake := true }
      exact h.of_record (by rw [record]) (by rw [record]) (by rw [record])
    · exact h.of_bank (State.setBank_other s _ e)
  | timers c =>
    by_cases e : c = b
    · subst e
      have record : (s.refreshTimersOf c).banks[c] = refreshedRecord s c := State.setBank_same _ _ _
      exact h.of_record (by rw [record]; rfl) (by rw [record]; rfl) (by rw [record]; rfl)
    · exact h.of_bank (State.setBank_other _ _ e)
  | grantEntry k hr hf hk => exact h.of_banks (grantEntry_end hk).banks
  | grantDrain i cls hr hf hi => exact h.of_banks (grantDrain_end cls hi).banks
  | _ => exact h.of_banks rfl

theorem steps (h : LostStands b lost s) (k : EndSteps s t) : LostStands b lost t := by
  induction k with
  | refl => exact h
  | tail _ k ih => exact ih.step k

end LostStands

/-- The state in which the lines find a bank whose descent they end (R79). -/
def descended (s : State) (b : BankNo) (o : Rest) : State := (s.drive b o.level.status true).sampleLines b

theorem descended_lostStands (s : State) (b : BankNo) (o : Rest) :
    LostStands b s.banks[b].lost ((descended s b o).settleDescending b o) := by
  have record := drive_sampled s b o.level.status true
  have read : LostStands b s.banks[b].lost (descended s b o) := by
    refine ⟨by rw [descended, record], ?_⟩
    rw [descended, record]
    cases o <;> rfl
  have settled : LostStands b s.banks[b].lost
      ((descended s b o).setBank b fun k => { k with state := o.state, settleTimer := .stopped, pendingWake := false }) := by
    have same := State.setBank_same (descended s b o) b fun k =>
      { k with state := o.state, settleTimer := .stopped, pendingWake := false }
    exact read.of_record (by rw [same]) (by rw [same]) (by rw [same])
  unfold State.settleDescending
  dsimp only
  split
  · exact settled.wake o
  · exact settled

section
variable {s : State} {b : BankNo} {o : Rest}

/-- A bank whose wake is pending or demanded wakes at once when it settles (R79). -/
theorem descended_wakes (h : s.banks[b].pendingWake = true ∨ s.wakeDemand b = true) {t : State}
    (ends : EventEnd ((descended s b o).settleDescending b o) t) :
    t.bankState b = .waking o ∧ t.banks[b].request = .active ∧
      t.banks[b].settleTimer = .running s.regs.settleLimit.toNat 0 ∧
      t.banks[b].wakeCount = satInc s.banks[b].wakeCount := by
  have record : (descended s b o).banks[b] = _ := drive_sampled s b o.level.status true
  have again : ((descended s b o).banks[b].pendingWake || (descended s b o).wakeDemand b) = true := by
    have demand : (descended s b o).wakeDemand b = s.wakeDemand b := rfl
    rw [record, demand]
    exact Bool.or_eq_true_iff.mpr h
  have wakes : (descended s b o).settleDescending b o = ((descended s b o).setBank b fun k =>
      { k with state := o.state, settleTimer := .stopped, pendingWake := false }).wake b o := if_pos again
  have settled := State.setBank_same (descended s b o) b fun k =>
    { k with state := o.state, settleTimer := .stopped, pendingWake := false }
  rw [wakes] at ends
  obtain ⟨state, request, timer, count, -⟩ := wake_ends ends (by rw [settled, record]; cases o <;> rfl)
  rw [settled, record] at count
  exact ⟨state, request, timer, count⟩

/-- A bank that nothing wakes rests at its target through the end of the event (R79). -/
theorem descended_rests (hp : s.banks[b].pendingWake = false) (hd : s.wakeDemand b = false) (hn : s.pressure = false) :
    TimersOnly { s.banks[b] with
      state := o.state, settleTimer := .stopped, pendingWake := false, reported := o.level.status, settled := true }
      (((descended s b o).settleDescending b o).finish s false).banks[b] := by
  have read : (descended s b o).banks[b] = _ := drive_sampled s b o.level.status true
  have still : ((descended s b o).banks[b].pendingWake || (descended s b o).wakeDemand b) = false := by
    have demand : (descended s b o).wakeDemand b = s.wakeDemand b := rfl
    rw [read, demand, hd, hp]
    rfl
  have record := settleDescending_rests (o := o) still
  rw [read] at record
  have other : ∀ c : BankNo, b ≠ c → ((descended s b o).settleDescending b o).banks[c] = s.banks[c] := fun c e =>
    (State.settleDescending_other _ o e).trans (State.setBank_other _ _ e)
  have state : ((descended s b o).settleDescending b o).bankState b = o.state := by rw [State.bankState, record]
  have faults : ((descended s b o).settleDescending b o).faults = s.faults := State.settleDescending_faults ..
  have store : ((descended s b o).settleDescending b o).store = s.store := State.settleDescending_store ..
  have regs : ((descended s b o).settleDescending b o).regs = s.regs := State.settleDescending_regs ..
  have pins : ((descended s b o).settleDescending b o).pins.fltpass = s.pins.fltpass := by
    rw [State.settleDescending_pins]
    rfl
  generalize (descended s b o).settleDescending b o = u at *
  have queue : State.runQueue s false u = u := by
    refine State.runQueue_rests (fun c => ?_) (by rw [faults]) pins fun i h => by rwa [store]
    by_cases e : b = c
    · subst e
      rw [state]
      cases o <;> exact ⟨nofun, nofun⟩
    · rw [State.bankState, other c e]
      exact ⟨id, id⟩
  have ages : State.takeAgeExpiries s u = u := State.takeAgeExpiries_none fun c h => by
    unfold State.ageExpired at *
    rw [store, regs] at h
    exact h
  have choice : u.pressureChoice = u := State.pressureChoice_notDue (.inl (by rw [State.pressure, store, regs]; exact hn))
  have quiet : u.untilGrant s false = u := by rw [State.untilGrant, queue, ages, choice]
  rw [State.finish, quiet, afterGrant_bank, refreshedRecord, (grant_end u).banks, record]
  rfl

end

/-! ## The statement -/

section
variable {s : State} {b : BankNo} (hs : ∀ c, s.HandshakeOf c)
include hs

/-- A wake from RETAIN, through one release walk (R80). -/
theorem wakingRetain_walked (hb : s.bankState b = .waking .retain) (hw : s.clear.wanted[b] = false) :
    ((((s.drive b .active true).sampleLines b).settleWaking b .retain).finish s false).QueueIsThatOf
      (State.releaseWalk { s.drive b .active true with
        banks := updAt s.banks b fun k =>
          { k with state := .active, settleTimer := .stopped, reported := .active, settled := true } }) := by
  have settled : ((s.drive b .active true).sampleLines b).settleWaking b .retain =
      { s.drive b .active true with
        banks := updAt s.banks b fun k =>
          { k with state := .active, settleTimer := .stopped, reported := .active, settled := true } } :=
    (if_neg (Bool.eq_false_iff.mp hw)).trans (sampled_setBank rfl)
  rw [settled]
  exact activated_walked (f := fun k =>
    { k with state := .active, settleTimer := .stopped, reported := .active, settled := true }) hs hb rfl rfl rfl rfl

/-- A wake from OFF, which sets LOST, through one release walk (R81). -/
theorem wakingOff_walked (hb : s.bankState b = .waking .off) (hw : s.clear.wanted[b] = false)
    (hc : s.regs.policy[b].clearOnWake = false) :
    ((((s.drive b .active true).sampleLines b).settleWaking b .off).finish s false).QueueIsThatOf
      (State.releaseWalk { s.drive b .active true with
        banks := updAt s.banks b fun k =>
          { k with state := .active, settleTimer := .stopped, reported := .active, settled := true, lost := true }
        irq := { s.irq with lost := true } }) := by
  have lost : ((s.drive b .active true).sampleLines b).setBank b (fun k => { k with lost := true }) =
      { s.drive b .active true with
        banks := updAt s.banks b fun k => { k with reported := .active, settled := true, lost := true } } :=
    sampled_setBank rfl
  have settled : ((s.drive b .active true).sampleLines b).settleWaking b .off =
      { s.drive b .active true with
        banks := updAt s.banks b fun k =>
          { k with state := .active, settleTimer := .stopped, reported := .active, settled := true, lost := true }
        irq := { s.irq with lost := true } } := by
    have noClear : ¬(s.regs.policy[b].clearOnWake || s.clear.wanted[b]) = true := by rw [hc, hw]; decide
    refine (if_neg noClear).trans ?_
    rw [lost]
    have twice := updAt_updAt (v := s.banks) (i := b)
      (f := fun k => { k with reported := .active, settled := true, lost := true })
      (g := fun k => { k with state := .active, settleTimer := .stopped })
      (h := fun k => { k with state := .active, settleTimer := .stopped, reported := .active, settled := true, lost := true })
      rfl
    exact congrArg (fun banks : Vector BankRecord 8 =>
      { s.drive b .active true with banks := banks, irq := { s.irq with lost := true } }) twice
  rw [settled]
  exact activated_walked (f := fun k =>
    { k with state := .active, settleTimer := .stopped, reported := .active, settled := true, lost := true })
    hs hb rfl rfl rfl rfl

end

/-- A bank that agrees with its lines and is raised waits for them to report settled at ACTIVE. -/
theorem waking_request {s : State} {b : BankNo} {o : Rest} (hh : s.HandshakeOf b) (hb : s.bankState b = .waking o) :
    (true && StatusLevel.active == s.banks[b].request.status) = true := by
  unfold State.HandshakeOf at hh
  rw [hb] at hh
  obtain ⟨request, -⟩ := hh
  rw [request]
  rfl

theorem descending_request {s : State} {b : BankNo} {o : Rest} (hh : s.HandshakeOf b) (hb : s.bankState b = .descending o) :
    (true && o.level.status == s.banks[b].request.status) = true := by
  unfold State.HandshakeOf at hh
  rw [hb] at hh
  obtain ⟨request, -⟩ := hh
  rw [request, beq_self_eq_true]
  rfl

/-- Settles O36: the lines that do not end a transition are read; those that do give the settle event, and what follows keeps the
bank, walks the queue where it enters ACTIVE, and raises it again only on demand. -/
theorem statusLinesEndTransitions : Obligations.StatusLinesEndTransitions := by
  intro s b level settled
  refine ⟨fun h => ?_, fun hf hb hh => ?_, fun hf hb hh => ?_, fun o hf hb hh => ?_⟩
  · cases hf : s.fitted b with
    | false => exact ⟨_, exec_statusLineChange_unfitted hf, rfl, fun _ _ => rfl, rfl⟩
    | true =>
      rw [hf] at h
      have read := lineChange_read (h.resolve_left nofun)
      exact ⟨_, (exec_statusLineChange hf).trans (congrArg _ read), rfl,
        fun c e => State.setBank_other _ _ (Ne.symm e), drive_sampled s b level settled⟩
  · have event := lineChange_waking hb (waking_request hh hb)
    obtain ⟨lost, timer, wakes, state, faults⟩ :=
      waking_ends (finish_eventEnd (((s.drive b .active true).sampleLines b).settleWaking b .retain) s false)
    exact ⟨_, (exec_statusLineChange hf).trans (congrArg _ event), lost, timer, wakes, state, faults,
      fun hs hw => wakingRetain_walked hs hb hw⟩
  · have event := lineChange_waking hb (waking_request hh hb)
    have ends := finish_eventEnd (((s.drive b .active true).sampleLines b).settleWaking b .off) s false
    obtain ⟨lost, timer, wakes, state, faults⟩ := waking_ends ends
    exact ⟨_, (exec_statusLineChange hf).trans (congrArg _ event), lost, ends.lostFlag (settleWaking_irqLost _ b), timer,
      wakes, state, faults, fun hs hw hc => wakingOff_walked hs hb hw hc⟩
  · have event := lineChange_descending hb (descending_request hh hb)
    have ends := finish_eventEnd ((descended s b o).settleDescending b o) s false
    have lost := (descended_lostStands s b o).steps (State.finish_steps _ s false)
    refine ⟨_, (exec_statusLineChange hf).trans (congrArg _ event), ends.faults.trans (State.settleDescending_faults ..),
      lost.flag, fun again => descended_wakes again ends, fun pending demand pressure => ?_⟩
    have kept := descended_rests (o := o) pending demand pressure
    have request : s.banks[b].request = o.level := by
      unfold State.HandshakeOf at hh
      rw [hb] at hh
      obtain ⟨request, -⟩ := hh
      exact request
    exact ⟨kept.state, kept.request.trans request, kept.settleTimer, kept.wakeCount⟩

end Sys2Proof.Machine

/-! A slot drains only as the presenter of the operation in flight (law L5, R110). -/

namespace Sys2Proof.Machine

/-- The operation in flight is the drain write of a slot (R110). -/
def DrainPresented (s : State) (i : SlotNo) : Prop :=
  ∃ op, s.port.inFlight = some op ∧ op.kind = .lineWrite ∧ op.presenter = .slot i

/-- No slot is DRAINING. -/
def NoDrains (s : State) : Prop := ∀ i : SlotNo, slotIs .draining s.store.slots[i] = false

theorem drainInFlight_iff (s : State) :
    s.DrainInFlight ↔ ∀ i : SlotNo, slotIs .draining s.store.slots[i] = true → DrainPresented s i := by
  constructor
  · intro h i hi
    cases hl : s.store.slots[i] with
    | none => rw [hl] at hi; cases hi
    | some l => exact h i l hl (by simpa [slotIs, hl] using hi)
  · exact fun h i l hl hd => h i (by simp [slotIs, hl, hd])

theorem NoDrains.inFlight {s : State} (h : NoDrains s) : s.DrainInFlight :=
  (drainInFlight_iff s).2 fun i hi => by rw [h i] at hi; cases hi

/-- A slot that drains is the presenter of the operation in flight. -/
theorem presenter_of_draining {s : State} (h : s.DrainInFlight) {op : InFlight} (hp : s.port.inFlight = some op)
    {i : SlotNo} (hi : slotIs .draining s.store.slots[i] = true) : op.presenter = .slot i := by
  obtain ⟨op', hp', -, presenter⟩ := (drainInFlight_iff s).1 h i hi
  cases hp.symm.trans hp'
  exact presenter

/-- At a FREE port no slot drains. -/
theorem noDrains_of_free {s : State} (h : s.DrainInFlight) (hp : s.port.inFlight = none) : NoDrains s := by
  intro i
  by_contra hi
  obtain ⟨op, hp', -⟩ := (drainInFlight_iff s).1 h i (by simpa using hi)
  cases hp.symm.trans hp'

/-- No slot begins to drain, and a drain write in flight stays so. -/
structure DrainsKept (s t : State) : Prop where
  draining : ∀ i : SlotNo, slotIs .draining t.store.slots[i] = true → slotIs .draining s.store.slots[i] = true := by
    exact fun _ h => h
  presented : ∀ i : SlotNo, DrainPresented s i → DrainPresented t i := by exact fun _ h => h

namespace DrainsKept

theorem inFlight {s t : State} (k : DrainsKept s t) (h : s.DrainInFlight) : t.DrainInFlight :=
  (drainInFlight_iff t).2 fun i hi => k.presented i ((drainInFlight_iff s).1 h i (k.draining i hi))

theorem trans {s t u : State} (k : DrainsKept s t) (k' : DrainsKept t u) : DrainsKept s u :=
  ⟨fun i h => k.draining i (k'.draining i h), fun i h => k'.presented i (k.presented i h)⟩

theorem of_inFlight {s t : State}
    (hk : ∀ i : SlotNo, slotIs .draining t.store.slots[i] = true → slotIs .draining s.store.slots[i] = true)
    (hp : t.port.inFlight = s.port.inFlight) : DrainsKept s t :=
  ⟨hk, fun i h => by rwa [DrainPresented, hp]⟩

theorem of_blocks {s t : State} (hs : t.store = s.store) (hp : t.port.inFlight = s.port.inFlight) : DrainsKept s t :=
  of_inFlight (by rw [hs]; exact fun _ h => h) hp

end DrainsKept

theorem NoDrains.of_store {s t : State} (h : NoDrains s) (hs : t.store = s.store) : NoDrains t := by
  intro i
  rw [hs]
  exact h i

/-! ## DRAINING slots in the store's changes -/

namespace LineStore

/-- A change of one line begins no drain where it makes no HELD line DRAINING. -/
theorem onLine_draining {st : LineStore} {i j : SlotNo} {f : Line → Line}
    (hf : ∀ l, (f l).state = .draining → l.state = .draining)
    (h : slotIs .draining (st.onLine i f).slots[j] = true) : slotIs .draining st.slots[j] = true := by
  rw [onLine_slot] at h
  cases hl : st.slots[j] with
  | none => rw [hl] at h; cases h
  | some l =>
    rw [hl] at h
    by_cases e : i = j
    · simpa [slotIs] using hf l (by simpa [slotIs, e] using h)
    · simpa [e] using h

theorem onLine_other {st : LineStore} {i j : SlotNo} (f : Line → Line) (e : i ≠ j) :
    (st.onLine i f).slots[j] = st.slots[j] := updAt_ne _ _ e

theorem merge_draining {st : LineStore} {i j : SlotNo} {r : Request}
    (h : slotIs .draining (st.merge i r).slots[j] = true) : slotIs .draining st.slots[j] = true := by
  refine onLine_draining (f := mergedLine r) (fun l hl => ?_) h
  unfold mergedLine at hl
  dsimp only at hl
  split at hl <;> exact hl

theorem allocate_draining {st : LineStore} {i j : SlotNo} {r : Request} {now : BitVec 16}
    (h : slotIs .draining (st.allocate i r now).slots[j] = true) : slotIs .draining st.slots[j] = true := by
  by_cases e : i = j
  · subst e
    rw [allocate, updAt_self] at h
    cases h
  · rwa [allocate, updAt_ne _ _ e] at h

theorem startDrain_draining {st : LineStore} {i j : SlotNo} (e : i ≠ j)
    (h : slotIs .draining (st.startDrain i).slots[j] = true) : slotIs .draining st.slots[j] = true := by
  rwa [startDrain, onLine_other _ e] at h

theorem ageAll_draining (st : LineStore) (i : SlotNo) :
    slotIs .draining st.ageAll.slots[i] = slotIs .draining st.slots[i] := by
  rw [ageAll_slot]
  cases st.slots[i] with
  | none => rfl
  | some l => simp [slotIs]

theorem discard_draining {st : LineStore} {b : BankNo} {i : SlotNo}
    (h : slotIs .draining (st.discard b).slots[i] = true) : slotIs .draining st.slots[i] = true := by
  rw [discard_slot] at h
  split at h
  · cases h
  · exact h

theorem returnAllHeld_draining (st : LineStore) (i : SlotNo) : slotIs .draining st.returnAllHeld.slots[i] = false := by
  rw [returnAllHeld_slot]
  cases st.slots[i] with
  | none => rfl
  | some l => cases hs : l.state <;> simp [slotIs, heldLine, hs]

end LineStore

/-! ## What follows an event -/

/-- The grant of a drain makes its slot the presenter of the operation in flight (R110). -/
theorem grantDrain_inFlight {s : State} {i : SlotNo} (cls : DrainClass) (h : NoDrains s) :
    (s.grantDrain i cls).DrainInFlight := by
  have started : ∀ j, slotIs .draining (s.store.startDrain i).slots[j] = true → i = j := by
    intro j hj
    by_contra e
    have := LineStore.startDrain_draining e hj
    rw [h j] at this
    cases this
  unfold State.grantDrain
  split
  · exact h.inFlight
  · refine (drainInFlight_iff _).2 fun j hj => ?_
    cases cls <;> exact ⟨_, rfl, rfl, by rw [started j hj]⟩

theorem endStep_drainInFlight {s t : State} (k : EndStep s t) (h : s.DrainInFlight) : t.DrainInFlight := by
  cases k with
  | serve => exact h
  | merge i r hj => exact DrainsKept.inFlight ⟨fun j => LineStore.merge_draining, fun _ x => x⟩ h
  | allocate i r hj => exact DrainsKept.inFlight ⟨fun j => LineStore.allocate_draining, fun _ x => x⟩ h
  | wake b o hf hb => exact (DrainsKept.of_blocks (State.wake_store ..) (by rw [State.wake_port])).inFlight h
  | grantEntry k hr hf hk => exact ((noDrains_of_free h hf).of_store (grantEntry_store s k)).inFlight
  | grantDrain i cls hr hf hi => exact grantDrain_inFlight cls (noDrains_of_free h hf)
  | grantZeroLine b hr hf hb => exact ((noDrains_of_free h hf).of_store (t := s.grantZeroLine b) rfl).inFlight
  | _ => exact h

theorem endSteps_drainInFlight {s t : State} (k : EndSteps s t) (h : s.DrainInFlight) : t.DrainInFlight := by
  induction k with
  | refl => exact h
  | tail _ k ih => exact endStep_drainInFlight k ih

/-! ## The end of an operation -/

theorem routeLine_other (s : State) {i j : SlotNo} (report : Report) (e : i ≠ j) :
    (s.routeLine i report).store.slots[j] = s.store.slots[j] := by
  have freed : (s.store.free i).slots[j] = s.store.slots[j] := updAt_ne _ _ e
  unfold State.routeLine
  split
  · rfl
  · split
    · rfl
    · rw [State.drained, State.afterFreeing_store]
      exact freed
    · exact LineStore.onLine_other _ e
    · rw [State.drainFailed, State.afterFreeing_store, State.handFault_store]
      exact freed

/-- A completion takes its slot out of DRAINING (R12 to R14). -/
theorem routeLine_leavesDraining (s : State) (i : SlotNo) (report : Report) :
    slotIs .draining (s.routeLine i report).store.slots[i] = false := by
  cases hd : slotIs .draining s.store.slots[i] with
  | false => rwa [routeLine_notDraining report hd]
  | true =>
    cases hl : s.store.slots[i] with
    | none => rw [hl] at hd; cases hd
    | some l =>
      have draining : l.state = .draining := by simpa [slotIs, hl] using hd
      cases report with
      | error => rw [routeLine_failed hl draining, (drainFailed_freed hl).slot]; rfl
      | ok =>
        cases hr : l.redirty with
        | false => rw [routeLine_drained hl draining hr, (drained_freed hl).slot]; rfl
        | true => rw [routeLine_renewed hl draining hr, renewed_slot hl]; rfl

/-- Where the operation in flight has ended, no slot drains: the one that did was its presenter (R110). -/
theorem noDrains_of_ended {s t : State} {op : InFlight} (h : s.DrainInFlight) (hp : s.port.inFlight = some op)
    (hk : ∀ i : SlotNo, slotIs .draining t.store.slots[i] = true → slotIs .draining s.store.slots[i] = true)
    (hn : ∀ i : SlotNo, op.presenter = .slot i → slotIs .draining t.store.slots[i] = false) : NoDrains t := fun i =>
  Bool.eq_false_iff.mpr fun hi => Bool.eq_false_iff.mp (hn i (presenter_of_draining h hp (hk i hi))) hi

/-- A completion takes the slot that it is routed to out of DRAINING (R126, R129). -/
theorem complete_noDrains {s : State} {op : InFlight} (h : s.DrainInFlight) (hp : s.port.inFlight = some op)
    (report : Report) (data : Vector Word 8) : NoDrains ((s.endOperation op.bank).route op report data) := by
  refine noDrains_of_ended h hp (fun j hj => ?_) fun i hi => ?_
  · unfold State.route at hj
    split at hj
    · rwa [routeWord_store] at hj
    next i _ =>
      by_cases e : i = j
      · rw [← e, routeLine_leavesDraining] at hj
        cases hj
      · rwa [routeLine_other _ report e] at hj
    · rwa [routeZero_store] at hj
  · rw [State.route, hi]
    exact routeLine_leavesDraining ..

/-- A timeout returns the slot of its operation to HELD (R132, R15). -/
theorem timeOut_noDrains {s : State} {op : InFlight} (h : s.DrainInFlight) (hp : s.port.inFlight = some op) :
    NoDrains (s.timeOut op) := by
  have returned : ∀ (st : LineStore) (i : SlotNo), slotIs .draining (st.returnHeld i).slots[i] = false := fun st i => by
    rw [LineStore.returnHeld, LineStore.onLine_slot]
    cases st.slots[i] <;> simp [slotIs]
  suffices NoDrains ((s.endOperation op.bank).tellTimeout op) from
    this.of_store (by rw [State.timeOut, State.handFault_store, State.makeStuck_store])
  refine noDrains_of_ended h hp (fun j hj => ?_) fun i hi => ?_
  · unfold State.tellTimeout at hj
    split at hj
    · exact hj
    · split at hj
      · exact LineStore.onLine_draining (fun _ hl => by cases hl) hj
      · exact hj
    · exact hj
  · simp only [State.tellTimeout, hi]
    split
    · exact returned ..
    next hn => exact Bool.eq_false_iff.mpr hn

/-! ## A command's own effect -/

theorem discardBank_drains (s : State) (b : BankNo) : DrainsKept s (s.discardBank b) := by
  refine .of_inFlight (fun i hi => ?_) (QueueKept.discardBank s b).inFlight
  rw [discardBank_store] at hi
  exact LineStore.discard_draining hi

theorem milliStep_drains (s : State) : DrainsKept s s.milliStep :=
  .of_inFlight (fun i hi => by rwa [milliStep_store, LineStore.ageAll_draining] at hi) (QueueKept.milliStep s).inFlight

theorem takeRequest_drainInFlight {s : State} (r : Request) (h : s.DrainInFlight) : (s.takeRequest r).DrainInFlight := by
  have judged := s.judge_justified r
  unfold State.takeRequest
  split
  · cases hv : (s.judge r).entryStatus with
    | none =>
      rw [State.firstEvaluation_answered s r hv]
      exact endSteps_drainInFlight (State.perform_steps s r _ judged) h
    | some st =>
      rw [State.firstEvaluation_entered s r st hv]
      exact endSteps_drainInFlight (State.perform_steps (s.appendEntry r st) r _ judged) h
  · exact h

theorem ownEffect_drainInFlight {s u : State} (k : OwnEffect s u) (h : s.DrainInFlight) : u.DrainInFlight := by
  have same : ∀ {v : State}, v.store = s.store → v.port.inFlight = s.port.inFlight → v.DrainInFlight := fun hs hp =>
    (DrainsKept.of_blocks hs hp).inFlight h
  cases k with
  | take r hp hm => exact takeRequest_drainInFlight r h
  | complete op report data hp => exact (complete_noDrains h hp report data).inFlight
  | timeOut op hp => exact (timeOut_noDrains h hp).inFlight
  | settleTimeout b hb => exact same (by simp) (by simp)
  | settleWaking b level settled o hf hb => exact same (by simp; rfl) (by simp; rfl)
  | settleDescending b level settled o hf hb => exact same (by simp; rfl) (by simp; rfl)
  | unsolicited b level settled hf => exact same (by simp; rfl) (by simp; rfl)
  | descend b o => exact same (by simp) (by simp)
  | cause b f => exact same (by simp) (by simp)
  | flushEvery => exact same (flushEvery_store s) (QueueKept.flushEvery s).inFlight
  | warn => exact same (enterWarn_store _) (QueueKept.enterWarn (s.driveSupwarn true)).inFlight
  | leaveWarn => exact same (leaveWarn_store _) (QueueKept.leaveWarn (s.driveSupwarn false)).inFlight
  | warmReset hr => exact NoDrains.inFlight fun i => s.store.returnAllHeld_draining i
  | removeHead => exact same (removeHead_store _) (QueueKept.removeHead s.endFrame).inFlight
  | clearUnlogged b =>
    exact same (by rw [State.clearUnlogged, State.judgeHold_store]) (QueueKept.clearUnlogged s b).inFlight
  | capture r => exact same (captureLow_store s r) (QueueEvent.captureLow s r).inFlight
  | refit v hv hm =>
    obtain ⟨-, -, idle⟩ := (mayRefit_iff s).1 hm
    exact same (refit_store _ v) (refit_kept (s := s.setTickDiv v) v idle).inFlight
  | wake b o hf hb => exact same (by simp) (by simp)
  | discard b hf hb => exact (discardBank_drains s b).inFlight h
  | clearWake b o hf hb hl => exact same (by simp) (by simp)
  | millisecond => exact (milliStep_drains s).inFlight h
  | _ => exact h

/-! ## Every step -/

theorem result_drainInFlight {s t : State} (k : Result s t) (h : s.DrainInFlight) : t.DrainInFlight := by
  induction k with
  | plain k => exact ownEffect_drainInFlight k h
  | ended k released => exact endSteps_drainInFlight (State.finish_steps _ _ _) (ownEffect_drainInFlight k h)
  | completed k released => exact endSteps_drainInFlight (State.finishCompletion_steps _ _ _) (ownEffect_drainInFlight k h)
  | replied _ _ _ _ ih => exact ih
  | reset =>
    refine endSteps_drainInFlight (State.finish_steps _ _ _) (NoDrains.inFlight fun i => ?_)
    rw [sampleInputs_store]
    show slotIs .draining State.reset.store.slots[i] = false
    rw [State.reset_slot]
    rfl

/-- A CLK cycle ages lines, and counts the access timer of the operation in flight (R196). -/
theorem clockCycle_drains (s : State) : DrainsKept s s.clockCycle := by
  have access : ∀ u : State, DrainsKept u u.tickAccess := fun u => by
    unfold State.tickAccess
    split
    next op hp =>
      refine { presented := fun i hi => ?_ }
      obtain ⟨op', hp', kind, presenter⟩ := hi
      cases hp.symm.trans hp'
      exact ⟨_, rfl, kind, presenter⟩
    · exact {}
  have settle : ∀ u : State, DrainsKept u u.tickSettle := fun u => by
    unfold State.tickSettle
    split <;> exact {}
  have idle : ∀ u : State, DrainsKept u u.tickIdle := fun u => by
    unfold State.tickIdle
    split <;> exact {}
  have milli : ∀ u : State, DrainsKept u u.tickMilli := fun u => by
    unfold State.tickMilli
    split
    · exact {}
    · exact .trans (t := { u with clock := { u.clock with milli := 0 } }) {} (milliStep_drains _)
  unfold State.clockCycle
  split
  · exact {}
  · exact .trans (t := { s with clock := { s.clock with divider := 0 } }) {}
      ((access _).trans ((settle _).trans ((idle _).trans (milli _))))

/-- Settles O13: a slot begins to drain at a grant, which finds the port FREE, and each end of an operation takes the slot that
presented it out of DRAINING. -/
theorem stepKeepsDrainsInFlight : Obligations.StepKeepsDrainsInFlight := by
  intro s t h hs
  rcases step_result hs with ⟨rest, k⟩ | rfl
  · exact result_drainInFlight k h
  · exact (clockCycle_drains s).inFlight h

end Sys2Proof.Machine

/-! A flagged bank holds lines, and one bank at most holds PRESSURE (R99, R101): what takes causes or lines away keeps both
(`FlagsKept`), and a cause joins the set of a bank that holds lines alone. -/

namespace Sys2Proof.Machine

/-- A flagged bank holds lines, and at most one bank holds PRESSURE (R99). -/
def FlagsExact (s : State) : Prop := s.FlagsHaveLines ∧ s.OnePressureBank

/-- No bank gains a cause, and a bank that stays flagged does not lose its last line. -/
structure FlagsKept (s t : State) : Prop where
  causes : ∀ b : BankNo, (t.causes[b]).Sub s.causes[b] := by exact fun _ => .refl _
  lines : ∀ b : BankNo, t.drainWanted b = true → s.lineCount b ≠ 0 → t.lineCount b ≠ 0 := by exact fun _ _ h => h

namespace FlagsKept

theorem exact {s t : State} (k : FlagsKept s t) (h : FlagsExact s) : FlagsExact t := by
  obtain ⟨lines, one⟩ := h
  refine ⟨fun b hb => k.lines b hb (lines b ((k.causes b).any hb)), fun b c hb hc => ?_⟩
  obtain ⟨-, inB, -⟩ := k.causes b
  obtain ⟨-, inC, -⟩ := k.causes c
  exact one b c (inB hb) (inC hc)

theorem refl (s : State) : FlagsKept s s := {}

theorem trans {s t u : State} (k : FlagsKept s t) (k' : FlagsKept t u) : FlagsKept s u where
  causes := fun b => (k'.causes b).trans (k.causes b)
  lines := fun b hb hl => k'.lines b hb (k.lines b ((k'.causes b).any hb) hl)

theorem of_lines {s t : State} (hc : t.causes = s.causes) (hl : ∀ b, s.lineCount b ≠ 0 → t.lineCount b ≠ 0) :
    FlagsKept s t where
  causes := fun b => by rw [hc]; exact .refl _
  lines := fun b _ => hl b

theorem of_blocks {s t : State} (hc : t.causes = s.causes) (hs : t.store = s.store) : FlagsKept s t :=
  of_lines hc fun b => by rw [State.lineCount, State.lineCount, hs]; exact id

theorem foldl {α : Type} {f : State → α → State} (hf : ∀ s a, FlagsKept s (f s a)) (l : List α) (s : State) :
    FlagsKept s (l.foldl f s) := by
  induction l generalizing s with
  | nil => exact .refl s
  | cons a l ih => exact (hf s a).trans (ih _)

end FlagsKept

/-- A cause joins the set of a bank that holds lines, PRESSURE only where no bank holds it (R99, R101). -/
theorem FlagsExact.join {s t : State} {b : BankNo} {f : DrainCauses → DrainCauses} (h : FlagsExact s)
    (hl : s.lineCount b ≠ 0) (hp : ∀ c, (f c).pressure = true → c.pressure = true ∨ s.hasPressureBank = false)
    (hc : t.causes = updAt s.causes b f) (hs : t.store = s.store) : FlagsExact t := by
  obtain ⟨lines, one⟩ := h
  have count : ∀ c, t.lineCount c = s.lineCount c := fun c => by rw [State.lineCount, hs, State.lineCount]
  have other : ∀ c : BankNo, b ≠ c → t.causes[c] = s.causes[c] := fun c e => by rw [hc, updAt_ne _ _ e]
  have alone : ∀ c : BankNo, b ≠ c → (t.causes[b]).pressure = true → (t.causes[c]).pressure = true → False := by
    intro c e hb hc'
    rw [other c e] at hc'
    rw [hc, updAt_self] at hb
    rcases hp _ hb with held | none
    · exact e (one b c held hc')
    · exact Bool.eq_false_iff.mp none ((State.hasPressureBank_iff s).2 ⟨c, hc'⟩)
  refine ⟨fun c hw => ?_, fun c d hpc hpd => ?_⟩
  · rw [count]
    by_cases e : b = c
    · exact e ▸ hl
    · exact lines c (by rwa [State.drainWanted, other c e] at hw)
  · by_cases ec : b = c <;> by_cases ed : b = d
    · exact ec.symm.trans ed
    · exact (alone d ed (ec ▸ hpc) hpd).elim
    · exact (alone c ec (ed ▸ hpd) hpc).elim
    · exact one c d (other c ec ▸ hpc) (other d ed ▸ hpd)

theorem FlagsExact.addCause {s : State} (h : FlagsExact s) (b : BankNo) {f : DrainCauses → DrainCauses}
    (hf : ∀ c, (f c).pressure = c.pressure) : FlagsExact (s.addCause b f) := by
  by_cases hl : s.lineCount b = 0
  · rwa [State.addCause, if_pos hl]
  · exact h.join hl (fun c hp => .inl (hf c ▸ hp)) (State.addCause_causes f hl) (State.addCause_store ..)

theorem FlagsExact.foldl {α : Type} {f : State → α → State} (hf : ∀ s a, FlagsExact s → FlagsExact (f s a)) (l : List α)
    {s : State} (h : FlagsExact s) : FlagsExact (l.foldl f s) :=
  List.foldlRecOn l f h fun t ht a _ => hf t a ht

/-! ## What follows an event -/

/-- The end of an event takes no bank's last line. -/
theorem EventEnd.lines {s t : State} (h : EventEnd s t) (b : BankNo) (hl : s.lineCount b ≠ 0) : t.lineCount b ≠ 0 := by
  intro empty
  refine hl ((LineStore.lineCount_eq_zero_iff _ b).2 fun i => ?_)
  have free := (LineStore.lineCount_eq_zero_iff _ b).1 empty i
  cases hi : s.store.slots[i] with
  | none => rfl
  | some l =>
    obtain ⟨l', hl', kept⟩ := h.slots i l hi
    rw [hl'] at free
    simpa [slotOfBank, Line.bank, kept.addr] using free

theorem endStep_flags {s t : State} (k : EndStep s t) (h : FlagsExact s) : FlagsExact t := by
  have lines := (eventEnd_step k).lines
  have same : t.causes = s.causes → FlagsExact t := fun hc => (FlagsKept.of_lines hc lines).exact h
  cases k with
  | cause b f hm hk hl hp => exact h.join hl hp rfl rfl
  | wake b o hf hb => exact same (State.wake_causes ..)
  | grantEntry k hr hf hk => exact same (grantEntry_end hk).causes
  | grantDrain i cls hr hf hi => exact same (grantDrain_end cls hi).causes
  | _ => exact same rfl

theorem FlagsExact.steps {s t : State} (h : FlagsExact s) (k : EndSteps s t) : FlagsExact t := by
  induction k with
  | refl => exact h
  | tail _ k ih => exact endStep_flags k ih

theorem FlagsExact.finish {s : State} (h : FlagsExact s) (pre : State) (released : Bool) :
    FlagsExact (s.finish pre released) := h.steps (State.finish_steps ..)

/-! ## What a command's own effect takes away -/

namespace FlagsKept

variable (s : State)

/-- A bank whose lines may have been freed has its causes emptied where it holds none (R104). -/
theorem afterFreeing {s x : State} (b : BankNo) (hc : x.causes = s.causes)
    (hl : ∀ c, b ≠ c → s.lineCount c ≠ 0 → x.lineCount c ≠ 0) : FlagsKept s (x.afterFreeing b) := by
  have count : ∀ c, (x.afterFreeing b).lineCount c = x.lineCount c := fun c => by
    rw [State.lineCount, State.afterFreeing_store, State.lineCount]
  have causes := afterFreeing_causes x b
  have other : ∀ c : BankNo, b ≠ c → (x.afterFreeing b).causes[c] = s.causes[c] := fun c e => by
    rw [causes]
    split
    · rw [updAt_ne _ _ e, hc]
    · rw [hc]
  have emptied : x.lineCount b = 0 → (x.afterFreeing b).causes[b] = DrainCauses.none := fun h => by
    rw [causes, if_pos h, updAt_self]
  refine ⟨fun c => ?_, fun c hw hs => ?_⟩
  · by_cases e : b = c
    · subst e
      by_cases h : x.lineCount b = 0
      · rw [emptied h]
        exact ⟨nofun, nofun, nofun, nofun⟩
      · rw [causes, if_neg h, hc]
        exact .refl _
    · rw [other c e]
      exact .refl _
  · rw [count]
    by_cases e : b = c
    · subst e
      intro h
      rw [State.drainWanted, emptied h] at hw
      cases hw
    · exact hl c e hs

theorem makeStuck (b : BankNo) : FlagsKept s (s.makeStuck b) := by
  unfold State.makeStuck
  split
  · refine ⟨fun c => ?_, fun c _ => ?_⟩
    · simp only [State.markFailed_causes, State.setCauses_causes, State.abandonClear_causes, State.setBank_causes]
      by_cases e : b = c
      · subst e
        rw [updAt_self]
        exact ⟨id, nofun, id, id⟩
      · rw [updAt_ne _ _ e]
        exact .refl _
    · simp [State.lineCount]
  · exact .refl s

theorem failBank (b : BankNo) (kind : FaultKind) : FlagsKept s (s.failBank b kind) :=
  (makeStuck s b).trans (of_blocks (State.handFault_causes ..) (State.handFault_store ..))

theorem sampleAtRest (b : BankNo) : FlagsKept s (s.sampleAtRest b) := by
  have sampled : FlagsKept s (s.sampleLines b) := {}
  unfold State.sampleAtRest
  dsimp only
  split
  · exact sampled
  · exact sampled.trans (failBank ..)

theorem refit (v : BitVec 16) : FlagsKept s (s.refit v) := by
  refine .trans (t := { s with regs := { s.regs with banksFitted := v.extractLsb' 0 4 } }) {}
    (foldl (fun t b => ?_) _ _)
  unfold State.fitBank
  split
  · exact .trans (t := t.setBank b fun _ => BankRecord.reset) {} (sampleAtRest ..)
  · exact .refl t

theorem routeWord (report : Report) (data : Vector Word 8) : FlagsKept s (s.routeWord report data) := by
  unfold State.routeWord
  split
  · exact {}
  · split
    · exact {}
    · split <;> exact {}

/-- The slot of a completed drain holds one line, that of its bank (R12 to R14). -/
theorem routeLine (i : SlotNo) (report : Report) : FlagsKept s (s.routeLine i report) := by
  unfold State.routeLine
  split
  · exact {}
  next l hl =>
    have freed : ∀ c, l.bank ≠ c → s.lineCount c ≠ 0 → (s.store.free i).lineCount c ≠ 0 := fun c e h => by
      have count := LineStore.free_lineCount hl c
      rw [beq_false_of_ne e] at count
      exact fun x => h (count.symm.trans x)
    split
    · exact {}
    · exact afterFreeing l.bank rfl freed
    · exact of_lines rfl fun b h =>
        (s.store.onLine_lineCount i (renewedLine s.clock.msTime) (fun _ => rfl) b).trans_ne h
    · refine afterFreeing l.bank (State.handFault_causes ..) fun c e h => ?_
      rw [State.lineCount, State.handFault_store]
      exact freed c e h

theorem routeZero (report : Report) : FlagsKept s (s.routeZero report) := by
  have advance : ∀ (u : State) (b : BankNo), FlagsKept u (u.advanceClear b) := fun u b => by
    unfold State.advanceClear
    split <;> exact {}
  unfold State.routeZero
  split
  · split
    · exact {}
    · refine .trans (.of_blocks ?_ ?_) (advance ..)
      · cases report with
        | ok => rfl
        | error => exact State.handFault_causes ..
      · cases report with
        | ok => rfl
        | error => exact State.handFault_store ..
  · exact {}

theorem complete (op : InFlight) (report : Report) (data : Vector Word 8) :
    FlagsKept s ((s.endOperation op.bank).route op report data) := by
  refine .trans (t := s.endOperation op.bank) {} ?_
  unfold State.route
  split
  · exact routeWord ..
  · exact routeLine ..
  · exact routeZero ..

theorem timeOut (op : InFlight) : FlagsKept s (s.timeOut op) := by
  have told : FlagsKept (s.endOperation op.bank) ((s.endOperation op.bank).tellTimeout op) := by
    unfold State.tellTimeout
    split
    · exact {}
    next i _ =>
      split
      · exact of_lines rfl fun b h => (s.store.onLine_lineCount i
          (fun l => { l with state := .held, drainContributors := 0, redirty := false }) (fun _ => rfl) b).trans_ne h
      · exact {}
    · exact {}
  exact .trans (t := s.endOperation op.bank) {} (told.trans ((makeStuck ..).trans
    (of_blocks (State.handFault_causes ..) (State.handFault_store ..))))

theorem discarded {st : LineStore} (b : BankNo) (hl : ∀ c, b ≠ c → s.lineCount c ≠ 0 → st.lineCount c ≠ 0) :
    FlagsKept s (discarded s st b) :=
  (afterFreeing (s := s) (x := { s with store := st }) b rfl hl).trans
    (of_blocks (State.handFault_causes ..) (State.handFault_store ..))

theorem discardBank (b : BankNo) : FlagsKept s (s.discardBank b) := by
  have others : ∀ c, b ≠ c → s.lineCount c ≠ 0 → (s.store.discard b).lineCount c ≠ 0 := fun c e h empty => by
    refine h ((LineStore.lineCount_eq_zero_iff _ c).2 fun i => ?_)
    have free := (LineStore.lineCount_eq_zero_iff _ c).1 empty i
    rw [LineStore.discard_slot] at free
    split at free
    next own =>
      cases hi : s.store.slots[i] with
      | none => rfl
      | some l =>
        have ofB : l.bank = b := by simpa [slotOfBank, hi] using own
        simpa [slotOfBank, ofB] using e
    · exact free
  rw [discardBank_eq]
  exact (discarded s b others).trans (of_blocks (State.descend_causes ..) (State.descend_store ..))

theorem warmReset : FlagsKept s (resetAsserted s) :=
  of_lines (resetAsserted_causes s) fun b => by rw [resetAsserted_lineCount]; exact id

theorem milliStep : FlagsKept s s.milliStep := by
  refine of_lines ?_ fun b => ?_
  · unfold State.milliStep
    generalize s.store.ageAll = st
    dsimp only
    split <;> rfl
  · have lines := LineStore.ageAll_lineCount s.store b
    rw [← milliStep_store] at lines
    exact lines.trans_ne

theorem leaveWarn : FlagsKept s (s.driveSupwarn false).leaveWarn := by
  unfold State.leaveWarn
  split <;> exact {}

theorem removeHead : FlagsKept s s.endFrame.removeHead := by
  unfold State.removeHead
  split
  · exact {}
  · exact of_blocks (State.judgeHold_causes ..) (State.judgeHold_store ..)

theorem clearUnlogged (b : BankNo) : FlagsKept s (s.clearUnlogged b) :=
  of_blocks (State.judgeHold_causes ..) (State.judgeHold_store ..)

end FlagsKept

/-! ## Every command -/

namespace FlagsExact

variable {s u : State}

theorem ended (h : FlagsExact s) (k : FlagsKept s u) (pre : State) (released : Bool) : FlagsExact (u.finish pre released) :=
  (k.exact h).finish pre released

theorem takeRequest (h : FlagsExact s) (r : Request) : FlagsExact (s.takeRequest r) := by
  have judged := s.judge_justified r
  unfold State.takeRequest
  split
  · cases hv : (s.judge r).entryStatus with
    | none =>
      rw [State.firstEvaluation_answered s r hv]
      exact h.steps (State.perform_steps s r _ judged)
    | some st =>
      rw [State.firstEvaluation_entered s r st hv]
      exact FlagsExact.steps (s := s.appendEntry r st) h (State.perform_steps (s.appendEntry r st) r _ judged)
  · exact h

theorem flushBank (h : FlagsExact s) (b : BankNo) : FlagsExact (s.flushBank b) :=
  h.addCause b (f := fun c => { c with flush := true }) fun _ => rfl

theorem flushEvery (h : FlagsExact s) : FlagsExact s.flushEvery := by
  refine foldl (fun t b ht => ?_) _ h
  split
  · exact ht.flushBank b
  · exact ht

theorem enterWarn (h : FlagsExact s) : FlagsExact s.enterWarn := by
  refine foldl (fun t b ht => ?_) _ h
  exact ht.addCause b (f := fun c => { c with warn := true }) fun _ => rfl

theorem writeInRange {c : Bool} {effect : State → State} (h : FlagsExact s) (he : FlagsExact (effect s)) :
    FlagsExact (s.writeInRange c effect) := by
  unfold State.writeInRange
  split
  · exact he
  · exact h

theorem writeConfig (h : FlagsExact s) (v : BitVec 16) : FlagsExact (s.writeConfig v) := by
  unfold State.writeConfig
  split
  · split
    · exact h
    · split
      · exact ended (s := s.setTickDiv v) h (.refit _ v) s false
      · exact h
  · exact h

theorem regWrite (h : FlagsExact s) (number : Byte) (v : BitVec 16) : Yields FlagsExact (execRegWrite number v s) := by
  refine .onFrame h ?_
  split
  · exact .next h
  iterate 2 exact .next (writeInRange h h)
  iterate 9 exact .next h
  · exact .next (h.writeConfig v)
  iterate 2 exact .next (writeInRange h (h.ended {} s false))
  iterate 5 exact .next (writeInRange h h)

theorem order (h : FlagsExact s) (bank : Byte) {action : BankNo → State} (ha : ∀ b, FlagsExact (action b)) :
    Yields FlagsExact (s.onFrame (.next (s.order bank action))) := by
  refine .onFrame h (.next ?_)
  unfold State.order
  split
  · exact h
  · split
    · exact ha _
    · exact h

theorem accept (h : FlagsExact s) (k : FlagsKept s u) : FlagsExact (s.accept u) := h.ended k s false

theorem woken (s : State) (b : BankNo) (o : Rest) : FlagsKept s (s.wake b o) :=
  .of_blocks (State.wake_causes ..) (State.wake_store ..)

theorem lowered (s : State) (b : BankNo) (o : Rest) : FlagsKept s (s.descend b o) :=
  .of_blocks (State.descend_causes ..) (State.descend_store ..)

theorem orderWake (h : FlagsExact s) (b : BankNo) : FlagsExact (s.orderWake b) := by
  unfold State.orderWake
  split
  · exact h.accept (woken ..)
  · exact h.accept (woken ..)
  · exact h
  · split
    · exact h.accept {}
    · exact h
  all_goals exact h

theorem orderRetain (h : FlagsExact s) (b : BankNo) : FlagsExact (s.orderRetain b) := by
  unfold State.orderRetain
  iterate 3
    split
    · exact h
  exact h.accept (lowered ..)

theorem orderOff (h : FlagsExact s) (b : BankNo) : FlagsExact (s.orderOff b) := by
  unfold State.orderOff
  split
  · split
    · exact h
    · exact h.accept (lowered ..)
  · exact h

theorem orderRetry (h : FlagsExact s) (b : BankNo) : FlagsExact (s.orderRetry b) := by
  unfold State.orderRetry
  split
  · exact h.accept (woken ..)
  all_goals exact h

theorem orderDiscard (h : FlagsExact s) (b : BankNo) : FlagsExact (s.orderDiscard b) := by
  unfold State.orderDiscard
  split
  · exact h.accept (.discardBank s b)
  · exact h

theorem orderClear (h : FlagsExact s) (b : BankNo) : FlagsExact (s.orderClear b) := by
  have pending : FlagsKept s (s.setClearPending b true) := {}
  unfold State.orderClear
  split
  · exact h
  · split
    · exact h.accept {}
    · exact h.accept (pending.trans (woken ..))
    · exact h.accept (pending.trans (woken ..))
    all_goals exact h

theorem orderUnlost (h : FlagsExact s) (b : BankNo) : FlagsExact (s.orderUnlost b) := by
  unfold State.orderUnlost
  split
  · exact h
  · exact FlagsKept.exact {} h

theorem flush (h : FlagsExact s) (bank : Byte) : Yields FlagsExact (execFlush bank s) := by
  refine .onFrame h ?_
  split
  · exact .next h
  next b _ =>
    refine .next ?_
    unfold State.orderFlush
    split
    · exact h
    · split
      · exact h
      · exact (h.flushBank b).finish s false

theorem lineChange (h : FlagsExact s) (b : BankNo) (level : StatusLevel) (settled : Bool) :
    FlagsExact ((s.drive b level settled).lineChange s b) := by
  have sampled : FlagsKept s ((s.drive b level settled).sampleLines b) := {}
  have changed : FlagsExact ((s.drive b level settled).settledChange s b) := by
    unfold State.settledChange
    split
    · exact h.ended (sampled.trans (.failBank ..)) s false
    · exact sampled.exact h
  unfold State.lineChange
  dsimp only
  split
  · split
    · exact h.ended (sampled.trans (.of_blocks (State.settleWaking_causes ..) (State.settleWaking_store ..))) s false
    · exact sampled.exact h
  · split
    · exact h.ended (sampled.trans (.of_blocks (State.settleDescending_causes ..) (State.settleDescending_store ..))) s false
    · exact sampled.exact h
  · exact sampled.exact h
  all_goals exact changed

theorem requestTaken (h : FlagsExact s) (r : Request) : Yields FlagsExact (execRequestTaken r s) := by
  unfold execRequestTaken
  split
  · exact .cond (fun _ => .next ((h.takeRequest r).finish s false)) fun _ => .next h
  · exact .fault _

theorem accessTimeout (h : FlagsExact s) : Yields FlagsExact (execAccessTimeout s) := by
  unfold execAccessTimeout
  split
  next op _ => exact .next (h.ended (.timeOut s op) s _)
  · exact .next h

theorem regionWrite (h : FlagsExact s) (entry flags : Byte) (base limit : BitVec 24) (initiators : Byte) :
    Yields FlagsExact (execRegionWrite entry flags base limit initiators s) := by
  refine .onFrame h ?_
  split
  · refine .next ?_
    unfold State.writeRegion
    split
    · exact h.ended {} s true
    · exact h
  · exact .next h

theorem faultPopRemoval (h : FlagsExact s) (shifted : Nat) : Yields FlagsExact (execFaultPopRemoval shifted s) := by
  unfold execFaultPopRemoval
  split
  · exact .next h
  · exact .cond (fun _ => .next (h.ended (.removeHead s) s false)) fun _ => .next h

theorem completion (h : FlagsExact s) (number : BitVec 8) (report : Report) (data : Vector Word 8) :
    Yields FlagsExact (execCompletion number report data s) := by
  unfold execCompletion
  split
  next op _ =>
    exact .cond (fun _ => .next (((FlagsKept.complete s op report data).exact h).steps (State.finishCompletion_steps ..)))
      fun _ => .next h
  · exact .next h

/-- Power-on reset leaves no cause (R119). -/
theorem powerOnReset (s : State) : Yields FlagsExact (exec .powerOnReset s) := by
  obtain ⟨t, ht, -, -, -, -, none, -⟩ := powerOnResetGivesThePowerOnValues.2 s
  rw [ht]
  refine .next ⟨fun b hb => ?_, fun b c hb _ => ?_⟩
  · rw [State.drainWanted, none] at hb
    cases hb
  · rw [none] at hb
    cases hb

end FlagsExact

/-- Every command keeps flagged banks with lines and one PRESSURE bank at most. -/
theorem exec_flags {c : Instr} {s t : State} (hs : FlagsExact s) (h : exec c s = .next t) : FlagsExact t := by
  suffices hy : Yields FlagsExact (exec c s) from hy t h
  have same : Yields FlagsExact (.next s) := .next hs
  have replied : ∀ (n : Nat) (status : MgmtStatus) (results : List Byte),
      Yields FlagsExact (.next (s.reply n status results)) := fun _ _ _ => .next hs
  have ended : ∀ {u : State} {released : Bool}, FlagsKept s u → Yields FlagsExact (.next (u.finish s released)) := fun k =>
    .next (hs.ended k s _)
  have framed : ∀ {u : State}, FlagsExact u → Yields FlagsExact (s.onFrame (.next u)) := fun hu => .onFrame hs (.next hu)
  cases c with
  | requestTaken r => exact hs.requestTaken r
  | completion number report data => exact hs.completion number report data
  | accessTimeout => exact hs.accessTimeout
  | settleTimeout b => exact .cond (fun _ => ended (.failBank ..)) fun _ => same
  | statusLineChange b level settled =>
    exact .cond (fun _ => .next (hs.lineChange b level settled)) fun _ => .next (FlagsKept.exact {} hs)
  | idleTimerExpiry b => exact .cond (fun _ => ended (FlagsExact.lowered ..)) fun _ => same
  | offTimerExpiry b => exact .cond (fun _ => ended (FlagsExact.lowered ..)) fun _ => same
  | ageExpiry b =>
    have aged : FlagsExact (s.addCause b fun c => { c with age := true }) := hs.addCause b fun _ => rfl
    exact .cond (fun _ => .next (aged.finish s false)) fun _ => same
  | supwarnAssertion =>
    exact .cond (fun _ => same) fun _ => .next ((FlagsExact.enterWarn (s := s.driveSupwarn true) hs).finish s false)
  | supwarnNegation => exact .cond (fun _ => ended (.leaveWarn s)) fun _ => same
  | fltpassAssertion => exact .cond (fun _ => same) fun _ => ended {}
  | fltpassNegation => exact .cond (fun _ => ended {}) fun _ => same
  | resetnAssertion => exact .cond (fun _ => same) fun _ => ended (.warmReset s)
  | resetnNegation => exact .cond (fun _ => ended {}) fun _ => same
  | powerOnReset => exact .powerOnReset s
  | invalidCommand frame =>
    exact .cond (fun _ => framed hs) fun _ => .cond (fun _ => framed hs) fun _ => .fault _
  | status => exact framed hs
  | counterHighRead number =>
    refine .onFrame hs ?_
    split
    · exact replied _ _ _
    next r _ => cases r <;> exact .next hs
  | regWrite number v => exact hs.regWrite number v
  | configWrite v => exact framed (hs.writeConfig v)
  | hwmWrite v => exact framed (.writeInRange hs (hs.ended {} s false))
  | ageLimitWrite v => exact framed (.writeInRange hs (hs.ended {} s false))
  | irqStatusWrite v => exact framed (.writeInRange hs hs)
  | irqEnableWrite v => exact framed (.writeInRange hs hs)
  | resetRecordWrite v => exact framed (.writeInRange hs hs)
  | bankPolicyAWrite b v => exact framed (.writeInRange hs hs)
  | bankPolicyBWrite b v => exact framed (.writeInRange hs hs)
  | regionRead entry => exact .onFrame hs (by split <;> exact replied _ _ _)
  | regionWrite entry flags base limit initiators => exact hs.regionWrite entry flags base limit initiators
  | slotRead slot => exact .onFrame hs (by split <;> exact replied _ _ _)
  | wakeOrder bank => exact hs.order bank hs.orderWake
  | retainOrder bank => exact hs.order bank hs.orderRetain
  | offOrder bank => exact hs.order bank hs.orderOff
  | retryOrder bank => exact hs.order bank hs.orderRetry
  | discardOrder bank => exact hs.order bank hs.orderDiscard
  | clearOrder bank => exact hs.order bank hs.orderClear
  | unlostOrder bank => exact hs.order bank hs.orderUnlost
  | flush bank => exact hs.flush bank
  | flushAll => exact framed (hs.flushEvery.finish s false)
  | faultPeek => exact .onFrame hs (by split <;> exact replied _ _ _)
  | faultPop =>
    refine .onFrame hs ?_
    split
    · exact replied _ _ _
    · exact .next hs
  | faultPopRemoval shifted => exact hs.faultPopRemoval shifted
  | clearUnlogged bank =>
    refine .onFrame hs ?_
    split
    · exact replied _ _ _
    next b _ => exact .next (hs.ended (.clearUnlogged s b) s false)
  | millisecondCounterStep => exact .next ((FlagsKept.milliStep s).exact hs)

/-! ## Every step -/

/-- A step is a command carried out on the state with some queue of waiting commands, or one CLK cycle. -/
theorem step_exec {s t : State} (h : step s = .next t) :
    (∃ c rest, exec c { s with pending := rest } = .next t) ∨ t = s.clockCycle := by
  unfold step at h
  split at h
  · unfold idle at h
    split at h
    next c _ => exact .inl ⟨c, s.pending, h⟩
    · injection h with h
      exact .inr h.symm
  next c rest _ => exact .inl ⟨c, rest, h⟩

theorem clockCycle_flags (s : State) : FlagsKept s s.clockCycle := by
  have access : ∀ u : State, FlagsKept u u.tickAccess := fun u => by
    unfold State.tickAccess
    split <;> exact {}
  have settle : ∀ u : State, FlagsKept u u.tickSettle := fun u => by
    unfold State.tickSettle
    split <;> exact {}
  have idle : ∀ u : State, FlagsKept u u.tickIdle := fun u => by
    unfold State.tickIdle
    split <;> exact {}
  have milli : ∀ u : State, FlagsKept u u.tickMilli := fun u => by
    unfold State.tickMilli
    split
    · exact {}
    · exact .trans (t := { u with clock := { u.clock with milli := 0 } }) {} (FlagsKept.milliStep _)
  unfold State.clockCycle
  split
  · exact {}
  · exact .trans (t := { s with clock := { s.clock with divider := 0 } }) {}
      ((access _).trans ((settle _).trans ((idle _).trans (milli _))))

/-- Settles O14: a cause joins the set of a bank with lines alone, PRESSURE only where no bank holds it, and a bank that gives up
its last line has its causes emptied. -/
theorem stepKeepsDrainFlagsExact : Obligations.StepKeepsDrainFlagsExact := by
  intro s t hs h
  rcases step_exec h with ⟨c, rest, he⟩ | rfl
  · exact exec_flags (s := { s with pending := rest }) hs he
  · exact (clockCycle_flags s).exact hs

end Sys2Proof.Machine

/-! A cause that joins the sets of several banks (`causeSweep`), and FLUSH and FLUSH ALL (R103, R117, R118). -/

namespace Sys2Proof.Machine

/-! ## A cause joins the sets of the banks that take it -/

/-- The banks, one after the other, take a cause or are passed over. -/
def causeSweep (takes : BankNo → Bool) (f : DrainCauses → DrainCauses) (banks : List BankNo) (s : State) : State :=
  banks.foldl (fun t b => if takes b then t.addCause b f else t) s

section
variable (takes : BankNo → Bool) (f : DrainCauses → DrainCauses)

/-- What no cause bears on stays. -/
theorem causeSweep_keeps {α : Type} (g : State → α) (hg : ∀ s b, g (s.addCause b f) = g s) (banks : List BankNo)
    (s : State) :
    g (causeSweep takes f banks s) = g s := by
  refine foldl_keeps g (fun t b => ?_) banks s
  split
  · exact hg t b
  · rfl

theorem addCause_causes_other (s : State) {b c : BankNo} (h : b ≠ c) : (s.addCause b f).causes[c] = s.causes[c] := by
  by_cases hl : s.lineCount b = 0
  · rw [State.addCause, if_pos hl]
  · rw [State.addCause_causes f hl, updAt_ne _ _ h]

theorem addCause_banks_other (s : State) {b c : BankNo} (h : b ≠ c) : (s.addCause b f).banks[c] = s.banks[c] := by
  unfold State.addCause
  split
  · rfl
  · split
    · rfl
    · exact State.demand_other _ h

theorem causeSweep_other {banks : List BankNo} {b : BankNo} (h : b ∉ banks) (s : State) :
    (causeSweep takes f banks s).banks[b] = s.banks[b] ∧ (causeSweep takes f banks s).causes[b] = s.causes[b] := by
  induction banks generalizing s with
  | nil => exact ⟨rfl, rfl⟩
  | cons a rest ih =>
    obtain ⟨notA, notRest⟩ := not_or.mp (List.mem_cons.not.mp h)
    obtain ⟨records, causes⟩ := ih notRest (if takes a then s.addCause a f else s)
    refine ⟨records.trans ?_, causes.trans ?_⟩
    · split
      · exact addCause_banks_other f s (Ne.symm notA)
      · rfl
    · split
      · exact addCause_causes_other f s (Ne.symm notA)
      · rfl

/-- What a sweep of all banks makes of one of them is what its own turn makes of it. -/
theorem causeSweep_turn (b : BankNo) (s : State) : ∃ u : State, u.banks[b] = s.banks[b] ∧ u.causes[b] = s.causes[b] ∧
    u.store = s.store ∧ u.regs = s.regs ∧
    (causeSweep takes f (List.finRange 8) s).banks[b] = (if takes b then u.addCause b f else u).banks[b] ∧
    (causeSweep takes f (List.finRange 8) s).causes[b] = (if takes b then u.addCause b f else u).causes[b] := by
  obtain ⟨before, after, listed⟩ := List.append_of_mem (List.mem_finRange b)
  have nodup := List.nodup_finRange 8
  rw [listed, List.nodup_append, List.nodup_cons] at nodup
  obtain ⟨-, ⟨notAfter, -⟩, apart⟩ := nodup
  have notBefore : b ∉ before := fun h => apart b h b List.mem_cons_self rfl
  obtain ⟨records, causes⟩ := causeSweep_other takes f notBefore s
  obtain ⟨records', causes'⟩ := causeSweep_other takes f notAfter
    (if takes b then (causeSweep takes f before s).addCause b f else causeSweep takes f before s)
  have sweep : causeSweep takes f (List.finRange 8) s = causeSweep takes f after
      (if takes b then (causeSweep takes f before s).addCause b f else causeSweep takes f before s) := by
    rw [listed, causeSweep, List.foldl_append]
    rfl
  rw [sweep]
  exact ⟨causeSweep takes f before s, records, causes, causeSweep_keeps takes f State.store (by simp) before s,
    causeSweep_keeps takes f State.regs (by simp) before s, records', causes'⟩

/-- The sweep adds the cause to the banks that take it and hold lines, and to no other (R99). -/
theorem causeSweep_causes (b : BankNo) (s : State) : (causeSweep takes f (List.finRange 8) s).causes[b] =
    if takes b = true ∧ s.lineCount b ≠ 0 then f s.causes[b] else s.causes[b] := by
  obtain ⟨u, -, causes, store, -, -, turn⟩ := causeSweep_turn takes f b s
  have lines : u.lineCount b = s.lineCount b := by rw [State.lineCount, store, State.lineCount]
  rw [turn]
  cases ht : takes b with
  | false => simpa using causes
  | true =>
    by_cases hl : s.lineCount b = 0
    · rw [if_pos rfl, State.addCause, if_pos (lines.trans hl), if_neg (fun h => h.2 hl), causes]
    · rw [if_pos rfl, State.addCause_causes f (lines.trans_ne hl), updAt_self, if_pos ⟨rfl, hl⟩, causes]

/-- The sweep wakes a RETAIN bank that it flags (R105). -/
theorem causeSweep_wakes {b : BankNo} {s : State} (ht : takes b = true) (hl : s.lineCount b ≠ 0) (hf : s.fitted b = true)
    (hb : s.bankState b = .retain) (hd : s.drainWanted b = false) (hh : s.HandshakeOf b) :
    (causeSweep takes f (List.finRange 8) s).bankState b = .waking .retain ∧
      (causeSweep takes f (List.finRange 8) s).banks[b].wakeCount = satInc s.banks[b].wakeCount := by
  obtain ⟨u, records, causes, store, regs, turn, -⟩ := causeSweep_turn takes f b s
  have woken : u.addCause b f = (u.setCauses b f).wake b .retain :=
    addCause_rest (o := .retain) f (by rw [State.fitted, regs]; exact hf) (by rw [State.bankState, records]; exact hb)
      (by rw [State.lineCount, store]; exact hl) (by rw [State.drainWanted, causes]; exact hd)
  have unsettled := rest_notSettledAt (level := .active) hh (o := .retain) hb (by decide)
  rw [← records] at unsettled
  rw [State.bankState, turn, if_pos ht, woken, State.wake_bank (u.setCauses b f) b .retain unsettled, ← records]
  exact ⟨rfl, rfl⟩

end

/-! ## FLUSH and FLUSH ALL -/

theorem exec_flush {s : State} {bank : Byte} {b : BankNo} (hw : s.awaitRise = false) (hb : bank.toNat = b.val) :
    exec (.flush bank) s = .next (s.orderFlush b) := by
  simp only [exec, execFlush, State.onFrame_taken hw, hb, eighth_eq_some]

theorem flushBank_causes {s : State} {b : BankNo} (hl : s.lineCount b ≠ 0) :
    (s.flushBank b).causes = updAt s.causes b fun c => { c with flush := true } := State.addCause_causes _ hl

/-- Settles O60: the effect of each command adds the cause, and the end of the event leaves FLUSH causes and the rise of a bank
that it finds WAKING. -/
theorem flushFlagsBanksWithLines : Obligations.FlushFlagsBanksWithLines := by
  intro s bank hw
  refine ⟨fun hb => ?badarg, fun b hb => ⟨fun refused => ?refused, fun hf hs hl => ?empty, fun hf hs hl => ?flagged⟩, ?all⟩
  case badarg =>
    simp only [exec, execFlush, State.onFrame_taken hw, eighth_eq_none hb]
    rfl
  case refused =>
    have passes : (!s.fitted b || (s.bankState b).isStuck) = true := by
      rcases refused with h | h <;> simp [h]
    rw [exec_flush hw hb, State.orderFlush, if_pos passes]
    rfl
  case empty =>
    rw [exec_flush hw hb, State.orderFlush, if_neg (by simp [hf, hs]), if_pos hl]
    rfl
  case flagged =>
    have ends := finish_eventEnd (s.flushBank b) s false
    have causes := flushBank_causes hl
    refine ⟨((s.flushBank b).finish s false).reply 1 .done [], ?_, rfl, ?_, fun c e => ?_, fun hb' hd hh => ?_⟩
    · rw [exec_flush hw hb, State.orderFlush, if_neg (by simp [hf, hs]), if_neg hl]
    · obtain ⟨flush, -⟩ := ends.orders b
      exact flush.trans (by rw [causes, updAt_self])
    · obtain ⟨flush, -⟩ := ends.orders c
      exact flush.trans (by rw [causes, updAt_ne _ _ (Ne.symm e)])
    · rw [State.flushBank, addCause_rest (o := .retain) _ hf hb' hl hd] at ends ⊢
      obtain ⟨state, -⟩ := wake_ends ends (rest_notSettledAt hh (o := .retain) hb' (level := .active) (by decide))
      exact state
  case all =>
    refine ⟨(s.flushEvery.finish s false).reply 0 .done [], State.onFrame_taken hw _, rfl, fun b => ?_⟩
    obtain ⟨flush, -⟩ := (finish_eventEnd s.flushEvery s false).orders b
    have causes := causeSweep_causes (fun b => s.fitted b && !(s.bankState b).isStuck) (fun c => { c with flush := true }) b s
    refine flush.trans ((congrArg DrainCauses.flush causes).trans ?_)
    by_cases taken : (s.fitted b && !(s.bankState b).isStuck) = true ∧ s.lineCount b ≠ 0
    · obtain ⟨takes, lines⟩ := taken
      simp [takes, lines]
    · rw [if_neg taken]
      rw [not_and_or, Bool.not_eq_true] at taken
      rcases taken with h | h
      · rw [h]
        simp
      · simp [not_not.mp h]

end Sys2Proof.Machine

/-! SUPWARN and the SAFE output (R103, R105, R174, R175, R181): in WARN no line is allocated, so that a bank without lines
stays so and gains no cause; SAFE stands at the end of an event as the grant leaves it, and is latched where it has come to be
asserted. -/

namespace Sys2Proof.Machine

/-! ## No line is allocated in WARN -/

/-- In WARN, a bank that holds no lines, with its causes. -/
structure Lineless (b : BankNo) (c : DrainCauses) (s : State) : Prop where
  mode : s.mode = .warn
  lines : s.lineCount b = 0
  causes : s.causes[b] = c

theorem Lineless.step {b : BankNo} {c : DrainCauses} {s t : State} (h : Lineless b c s) (k : EndStep s t) :
    Lineless b c t := by
  have mode : t.mode = .warn := (eventEnd_step k).mode.trans h.mode
  cases k with
  | merge i r hj => exact ⟨mode, (s.store.onLine_lineCount i _ (fun l => (mergedLine_kept r l).addr) b).trans h.lines, h.causes⟩
  | allocate i r hj =>
    obtain ⟨-, -, -, -, -, -, normal, -⟩ := hj
    cases h.mode.symm.trans normal
  | wake d o hf hd =>
    exact ⟨mode, by rw [State.lineCount, State.wake_store]; exact h.lines, by rw [State.wake_causes]; exact h.causes⟩
  | cause d f hm hk hl hp =>
    refine ⟨mode, h.lines, ?_⟩
    rw [State.setCauses_causes, updAt_ne _ _ fun e => hl (by rw [e]; exact h.lines)]
    exact h.causes
  | grantEntry k hr hf hk =>
    have granted := grantEntry_end hk
    exact ⟨mode, (granted.lines b).trans h.lines, by rw [granted.causes]; exact h.causes⟩
  | grantDrain i cls hr hf hi =>
    have granted := grantDrain_end cls hi
    exact ⟨mode, (granted.lines b).trans h.lines, by rw [granted.causes]; exact h.causes⟩
  | _ => exact ⟨mode, h.lines, h.causes⟩

theorem Lineless.steps {b : BankNo} {c : DrainCauses} {s t : State} (h : Lineless b c s) (k : EndSteps s t) :
    Lineless b c t := by
  induction k with
  | refl => exact h
  | tail _ k ih => exact ih.step k

theorem fill_of_lineCount {s : State} (h : ∀ b, s.lineCount b = 0) : s.store.fill = 0 := by
  rw [LineStore.fill_eq_zero_iff]
  intro i
  cases hl : s.store.slots[i] with
  | none => rfl
  | some l => exact absurd (h l.bank) (LineStore.lineCount_ne_zero hl)

/-- In WARN an empty store stays empty through what follows an event. -/
theorem fill_of_warn {s t : State} (k : EndSteps s t) (hm : s.mode = .warn) (hf : s.store.fill = 0) : t.store.fill = 0 :=
  fill_of_lineCount fun b =>
    (Lineless.steps (s := s) ⟨hm, lineCount_of_fill hf b, rfl⟩ k).lines

/-- What follows an event empties no store. -/
theorem EventEnd.fill {s t : State} (h : EventEnd s t) (hf : s.store.fill ≠ 0) : t.store.fill ≠ 0 := by
  intro empty
  refine hf ((LineStore.fill_eq_zero_iff _).2 fun i => ?_)
  cases hi : s.store.slots[i] with
  | none => rfl
  | some l =>
    obtain ⟨l', hl', -⟩ := h.slots i l hi
    rw [(LineStore.fill_eq_zero_iff _).1 empty i] at hl'
    cases hl'

/-- What follows an event leaves a WAKING bank WAKING, and its wakes as counted. -/
theorem EventEnd.waking {s t : State} (h : EventEnd s t) {b : BankNo} {o : Rest} (hb : s.bankState b = .waking o) :
    t.bankState b = .waking o ∧ t.banks[b].wakeCount = s.banks[b].wakeCount := by
  have kept := (h.bank b).stays (by rw [← State.bankState, hb]; rfl)
  rw [State.bankState, kept]
  exact ⟨hb, rfl⟩

/-! ## The SAFE latch before the end of an event -/

/-- The SAFE cause stays as it is latched. -/
def LatchKept (s t : State) : Prop := t.irq.safe = s.irq.safe

namespace LatchKept

theorem refl (s : State) : LatchKept s s := rfl

theorem trans {s t u : State} (h : LatchKept s t) (h' : LatchKept t u) : LatchKept s u := Eq.trans h' h

theorem wake (s : State) (b : BankNo) (o : Rest) : LatchKept s (s.wake b o) := by
  obtain ⟨-, -, -, -, -, safe⟩ := wake_clear s b o
  exact safe

theorem demand (s : State) (b : BankNo) : LatchKept s (s.demand b) := by
  unfold State.demand
  split
  · split
    · exact wake s b .off
    · exact wake s b .retain
    all_goals exact rfl
  · rfl

theorem addCause (s : State) (b : BankNo) (f : DrainCauses → DrainCauses) : LatchKept s (s.addCause b f) := by
  unfold State.addCause
  split
  · rfl
  · split
    · rfl
    · exact demand (s.setCauses b f) b

theorem perform (s : State) (r : Request) (v : Verdict) : LatchKept s (s.perform r v) := by
  cases v with
  | held reason =>
    cases reason with
    | bank => exact demand s r.bank
    | _ => rfl
  | _ => rfl

theorem reevaluate (s : State) (k : Nat) (e : Entry) : LatchKept s (s.reevaluate k e) := by
  unfold State.reevaluate
  dsimp only
  split
  · exact perform (s.setStatus k _) _ _
  · exact perform (s.removeEntry k) _ _

theorem sweep (rule : State → Nat → Entry → Visit) (fuel k : Nat) (s : State) :
    LatchKept s (Machine.sweep rule fuel k s) :=
  sweep_relates refl trans (fun _ _ _ _ _ => rfl) (fun u k e _ _ => reevaluate u k e) fuel k s

theorem releaseWalks (n : Nat) (s : State) : LatchKept s (State.releaseWalks n s) := by
  induction n generalizing s with
  | zero => rfl
  | succ n ih =>
    have walk : LatchKept s s.releaseWalk := sweep ..
    unfold State.releaseWalks
    dsimp only
    split
    · exact walk.trans (ih _)
    · exact walk

theorem runQueue (pre : State) (released : Bool) (s : State) : LatchKept s (State.runQueue pre released s) := by
  have frozen : LatchKept s (State.freezeReevaluation pre s) := sweep ..
  unfold State.runQueue
  dsimp only
  split
  · exact frozen.trans (releaseWalks _ _)
  · exact frozen

theorem takeAgeExpiries (pre s : State) : LatchKept s (State.takeAgeExpiries pre s) := by
  refine foldl_keeps (fun u : State => u.irq.safe) (fun t b => ?_) _ s
  split
  · exact addCause t b _
  · rfl

theorem pressureChoice (s : State) : LatchKept s s.pressureChoice := by
  unfold State.pressureChoice
  split
  · dsimp only
    split
    · exact addCause s _ _
    · rfl
  · rfl

theorem grant (s : State) : LatchKept s s.grant := by
  rcases grant_cases s with ⟨e, -⟩ | ⟨k, e, -⟩ | ⟨i, cls, e, -⟩ | ⟨b, e, -⟩ <;> rw [e]
  · rfl
  · unfold State.grantEntry
    split
    · rfl
    · dsimp only
      split <;> rfl
  · unfold State.grantDrain
    split
    · rfl
    · cases cls <;> rfl
  · rfl

end LatchKept

/-- The state in which an event's grant leaves the part. -/
def granted (s pre : State) (released : Bool) : State := (s.untilGrant pre released).grant

theorem granted_steps (s pre : State) (released : Bool) : EndSteps s (granted s pre released) :=
  (State.untilGrant_steps s pre released).trans (State.grant_steps _)

theorem granted_latch (s pre : State) (released : Bool) : LatchKept s (granted s pre released) :=
  (LatchKept.runQueue pre released s).trans <| (LatchKept.takeAgeExpiries pre _).trans <|
    (LatchKept.pressureChoice _).trans (LatchKept.grant _)

theorem finish_safe (s pre : State) (released : Bool) : (s.finish pre released).safe = (granted s pre released).safe := by
  have after := afterGrant_eq (granted s pre released) pre
  show ((granted s pre released).afterGrant pre).safe = _
  rw [after]
  rfl

/-- SAFE stays unlatched at the end of an event that leaves it negated (R181). -/
theorem finish_notSafe {s pre : State} {released : Bool} (h : (granted s pre released).safe = false) :
    (s.finish pre released).safe = false ∧ (s.finish pre released).irq.safe = s.irq.safe := by
  refine ⟨(finish_safe ..).trans h, ?_⟩
  show ((granted s pre released).afterGrant pre).irq.safe = _
  rw [afterGrant_irq, h, Bool.and_false, if_neg Bool.false_ne_true]
  exact granted_latch s pre released

/-- SAFE is latched at the end of an event that asserts it (R181, R168). -/
theorem finish_isSafe {s pre : State} {released : Bool} (hp : pre.safe = false) (h : (granted s pre released).safe = true) :
    (s.finish pre released).irq.safe = true ∧ (s.finish pre released).safe = true := by
  refine ⟨?_, (finish_safe ..).trans h⟩
  show ((granted s pre released).afterGrant pre).irq.safe = _
  rw [afterGrant_irq, h, hp]
  rfl

theorem safe_iff (s : State) : s.safe = true ↔ s.mode = .warn ∧ s.store.fill = 0 ∧ s.drainWriteInFlight = false := by
  simp [State.safe, and_assoc]

theorem drainWriteInFlight_congr {s t : State} (h : t.port = s.port) : t.drainWriteInFlight = s.drainWriteInFlight := by
  rw [State.drainWriteInFlight, State.drainWriteInFlight, h]

/-- A grant to an entry starts no drain write. -/
theorem grantEntry_drainWrite {s : State} (k : Nat) (h : s.drainWriteInFlight = false) :
    (s.grantEntry k).drainWriteInFlight = false := by
  unfold State.grantEntry
  split
  · exact h
  · dsimp only
    split <;> rfl

/-- From an empty store no drain write starts. -/
theorem grant_drainWrite {s : State} (hf : s.store.fill = 0) (h : s.drainWriteInFlight = false) :
    s.grant.drainWriteInFlight = false := by
  rcases grant_cases s with ⟨e, -⟩ | ⟨k, e, -⟩ | ⟨i, cls, e, hi⟩ | ⟨b, e, -⟩
  · rwa [e]
  · rw [e]
    exact grantEntry_drainWrite k h
  · obtain ⟨l, hl, -⟩ := isCandidate_some hi
    rw [(LineStore.fill_eq_zero_iff _).1 hf i] at hl
    cases hl
  · rw [e]
    rfl

/-- In WARN, SAFE stands after the grant exactly where the store was empty and no drain write in flight (R181). -/
theorem granted_safe_iff {s pre : State} {released : Bool} (hm : s.mode = .warn) :
    (granted s pre released).safe = true ↔ s.store.fill = 0 ∧ s.drainWriteInFlight = false := by
  have steps := granted_steps s pre released
  have ends := eventEnd_steps steps
  rw [safe_iff]
  constructor
  · rintro ⟨-, fill, drains⟩
    refine ⟨by_contra fun h => ends.fill h fill, Bool.eq_false_iff.mpr fun h => ?_⟩
    have busy : s.port.inFlight ≠ none := fun e => by rw [State.drainWriteInFlight, e] at h; cases h
    rw [drainWriteInFlight_congr (ends.port (.inr busy)), h] at drains
    cases drains
  · rintro ⟨fill, drains⟩
    refine ⟨ends.mode.trans hm, fill_of_warn steps hm fill, grant_drainWrite ?_ ?_⟩
    · exact fill_of_warn (State.untilGrant_steps s pre released) hm fill
    · rw [drainWriteInFlight_congr (PortKept.untilGrant s pre released).port, drains]

/-! ## The assertion of SUPWARN -/

/-- What the assertion of SUPWARN itself leaves: every bank that holds lines has taken the WARN cause (R103, R174). -/
def warnEntered (s : State) : State := (s.driveSupwarn true).enterWarn

theorem exec_supwarnAssertion {s : State} (h : s.pins.supwarn = false) :
    exec .supwarnAssertion s = .next ((warnEntered s).finish s false) :=
  if_neg (by rw [h]; exact Bool.false_ne_true)

section
variable (s : State)

/-- The part in WARN before its banks take the cause. -/
def warnDriven : State := { s.driveSupwarn true with mode := .warn }

theorem warnEntered_eq : warnEntered s =
    causeSweep (fun _ => true) (fun c => { c with warn := true }) (List.finRange 8) (warnDriven s) := by
  simp only [warnEntered, State.enterWarn, causeSweep, if_true]
  rfl

theorem warnEntered_keeps {α : Type} (g : State → α)
    (hg : ∀ (t : State) (b : BankNo) (f : DrainCauses → DrainCauses), g (t.addCause b f) = g t) :
    g (warnEntered s) = g (warnDriven s) := by
  rw [warnEntered_eq]
  exact causeSweep_keeps _ _ g (fun t b => hg t b _) _ _

theorem warnEntered_mode : (warnEntered s).mode = .warn := warnEntered_keeps s State.mode (by simp)

theorem warnEntered_pins : (warnEntered s).pins = { s.pins with supwarn := true } := warnEntered_keeps s State.pins (by simp)

theorem warnEntered_store : (warnEntered s).store = s.store := warnEntered_keeps s State.store (by simp)

theorem warnEntered_port : (warnEntered s).port = s.port := warnEntered_keeps s State.port (by simp)

theorem warnEntered_latch : (warnEntered s).irq.safe = s.irq.safe :=
  warnEntered_keeps s (fun u => u.irq.safe) LatchKept.addCause

theorem warnEntered_causes (b : BankNo) : (warnEntered s).causes[b] =
    if s.lineCount b ≠ 0 then { s.causes[b] with warn := true } else s.causes[b] := by
  rw [warnEntered_eq, causeSweep_causes]
  simp only [true_and]
  rfl

/-- A bank without lines gains no cause at the assertion, nor in the rest of its event (R103, R45). -/
theorem supwarnAssertion_lineless {b : BankNo} (hl : s.lineCount b = 0) :
    ((warnEntered s).finish s false).causes[b] = s.causes[b] := by
  have start : Lineless b s.causes[b] (warnEntered s) :=
    ⟨warnEntered_mode s, by rw [State.lineCount, warnEntered_store]; exact hl,
      by rw [warnEntered_causes, if_neg (not_not.mpr hl)]⟩
  exact (start.steps (State.finish_steps ..)).causes

/-- A RETAIN bank that the assertion flags is WAKING at the end of its event (R105). -/
theorem supwarnAssertion_wakes {b : BankNo} (hl : s.lineCount b ≠ 0) (hf : s.fitted b = true)
    (hb : s.bankState b = .retain) (hd : s.drainWanted b = false) (hh : s.HandshakeOf b) :
    ((warnEntered s).finish s false).bankState b = .waking .retain ∧
      ((warnEntered s).finish s false).banks[b].wakeCount = satInc s.banks[b].wakeCount := by
  obtain ⟨state, wakes⟩ := causeSweep_wakes (fun _ => true) (fun c => { c with warn := true }) (s := warnDriven s) rfl hl hf
    hb hd hh
  rw [← warnEntered_eq] at state wakes
  obtain ⟨state', wakes'⟩ := (finish_eventEnd (warnEntered s) s false).waking state
  exact ⟨state', wakes'.trans wakes⟩

theorem supwarnAssertion_safe_iff : (granted (warnEntered s) s false).safe = true ↔
    s.store.fill = 0 ∧ s.drainWriteInFlight = false := by
  rw [granted_safe_iff (warnEntered_mode s), warnEntered_store, drainWriteInFlight_congr (warnEntered_port s)]

end

/-! ## The negation of SUPWARN -/

/-- What the negation of SUPWARN itself leaves of a part in WARN (R175). -/
def warnLeft (s : State) : State :=
  { s.driveSupwarn false with mode := if s.store.fill = 0 then .normal else .recover }

theorem exec_supwarnNegation {s : State} (h : s.pins.supwarn = true) (hm : s.mode = .warn) :
    exec .supwarnNegation s = .next ((warnLeft s).finish s false) := by
  have left : (s.driveSupwarn false).leaveWarn = warnLeft s := if_pos hm
  rw [← left]
  exact if_pos h

theorem supwarnNegation_notSafe (s : State) : (granted (warnLeft s) s false).safe = false := by
  rw [Bool.eq_false_iff]
  intro h
  obtain ⟨warn, -⟩ := (safe_iff _).1 h
  rw [(eventEnd_steps (granted_steps (warnLeft s) s false)).mode, warnLeft] at warn
  split at warn <;> cases warn

/-- Settles O43, by what each change of the line itself leaves and what the end of its event keeps of it. -/
theorem supplyWarningSetsTheMode : Obligations.SupplyWarningSetsTheMode := by
  intro s
  refine ⟨fun h => if_pos h, fun h => if_neg (by rw [h]; exact Bool.false_ne_true),
    fun h hm => ⟨_, exec_supwarnAssertion h, ?_⟩, fun h hm => ⟨_, exec_supwarnNegation h hm, ?_⟩⟩
  · have ends := finish_eventEnd (warnEntered s) s false
    have negated : s.safe = false := Bool.eq_false_iff.mpr fun x => hm ((safe_iff s).1 x).1
    refine ⟨ends.mode.trans (warnEntered_mode s), ends.pins.trans (warnEntered_pins s), fun b hl => ?_,
      fun b hl => supwarnAssertion_lineless s hl, fun b hl hf hb hd hh => supwarnAssertion_wakes s hl hf hb hd hh,
      fun fill drains => finish_isSafe negated ((supwarnAssertion_safe_iff s).2 ⟨fill, drains⟩), fun busy => ?_⟩
    · obtain ⟨-, warn⟩ := ends.orders b
      rw [warn, warnEntered_causes, if_pos hl]
    · rw [← warnEntered_latch s]
      refine finish_notSafe (Bool.eq_false_iff.mpr fun x => ?_)
      obtain ⟨fill, drains⟩ := (supwarnAssertion_safe_iff s).1 x
      rw [drains] at busy
      exact busy.elim (fun y => y fill) nofun
  · have ends := finish_eventEnd (warnLeft s) s false
    obtain ⟨safe, latch⟩ := finish_notSafe (supwarnNegation_notSafe s)
    refine ⟨ends.mode, ends.pins, safe, latch, fun b hw => ?_⟩
    obtain ⟨-, warn⟩ := ends.orders b
    exact warn.trans hw

end Sys2Proof.Machine

/-! No work that may be granted waits while the M port is FREE (R134): an event ends with a grant, and a command that brings no
event leaves what the Arbiter sees (`WorkStands`). The one completion that makes no grant has the assertion of RESETn behind it,
which is the next command taken (R202). -/

namespace Sys2Proof.Machine

/-! ## What follows an event -/

/-- An event ends with a grant (R134). -/
theorem finish_noWork {s pre : State} {released : Bool} : (s.finish pre released).NoWorkAtFreePort := fun hr _ hf =>
  finish_leavesNoWork (by rwa [(finish_eventEnd s pre released).pins] at hr) hf

/-- So does a completion, but where the assertion of RESETn falls together with it (R202). -/
theorem finishCompletion_noWork {s pre : State} {released : Bool} :
    (s.finishCompletion pre released).NoWorkAtFreePort := by
  by_cases follows : s.resetFollows = true
  · intro _ hn
    have ended := finishCompletion_eventEnd s pre released
    have same : (s.finishCompletion pre released).resetFollows = s.resetFollows := by
      rw [State.resetFollows, ended.pins, ended.pending, State.resetFollows]
    rw [same, follows] at hn
    cases hn
  · rw [State.finishCompletion, if_neg follows]
    exact finish_noWork

/-! ## What leaves the Arbiter nothing new -/

/-- The Arbiter's choice stands, and the port does not become FREE. -/
structure WorkStands (s t : State) : Prop where
  resetn : t.pins.resetn = s.pins.resetn := by rfl
  pending : t.pending = s.pending := by rfl
  free : t.port.inFlight = none → s.port.inFlight = none := by exact id
  choice : t.choice = s.choice := by rfl

namespace WorkStands

variable {s t u : State}

theorem trans (k : WorkStands s t) (k' : WorkStands t u) : WorkStands s u where
  resetn := k'.resetn.trans k.resetn
  pending := k'.pending.trans k.pending
  free := fun h => k.free (k'.free h)
  choice := k'.choice.trans k.choice

theorem noWork (k : WorkStands s t) (h : s.NoWorkAtFreePort) : t.NoWorkAtFreePort := by
  intro hr hn hf
  rw [State.resetFollows, k.resetn, k.pending] at hn
  exact k.choice.trans (h (k.resetn ▸ hr) hn (k.free hf))

/-- Records that change in other things than the banks' states. -/
theorem of_states {banks : Vector BankRecord 8} (h : ∀ b : BankNo, banks[b].state = s.banks[b].state) :
    WorkStands s { s with banks := banks } where
  choice := choice_congr rfl rfl rfl rfl rfl rfl h

theorem setBank (s : State) (b : BankNo) {f : BankRecord → BankRecord} (hf : ∀ k, (f k).state = k.state) :
    WorkStands s (s.setBank b f) :=
  of_states fun c => by
    by_cases e : b = c
    · subst e
      rw [updAt_self, hf]
    · rw [updAt_ne _ _ e]

theorem countBanks (s : State) {f : BankRecord → BankRecord} (hf : ∀ k, (f k).state = k.state) :
    WorkStands s (s.countBanks f) :=
  of_states fun b => by rw [mapAll_self, hf]

theorem sampled (s : State) (b : BankNo) (level : StatusLevel) (settled : Bool) :
    WorkStands s ((s.drive b level settled).sampleLines b) :=
  .trans (t := s.drive b level settled) {} (setBank _ b fun _ => rfl)

theorem captureLow (s : State) (r : Register) : WorkStands s (s.captureLow r) := by cases r <;> exact {}

theorem policy (s : State) (b : BankNo) (f : Policy → Policy) : WorkStands s ((s.setPolicy b f).refreshTimersOf b) :=
  .trans (t := s.setPolicy b f) {} (setBank _ b fun _ => rfl)

/-- The Arbiter sees of a line its address and whether it is HELD (R107). -/
theorem of_lines {st : LineStore} {f : Line → Line} (ha : st.ageList = s.store.ageList)
    (hs : ∀ i : SlotNo, st.slots[i] = (s.store.slots[i]).map f) (hf : ∀ l, (f l).state = l.state ∧ (f l).addr = l.addr) :
    WorkStands s { s with store := st } where
  choice := by
    have candidate : State.isCandidate { s with store := st } = s.isCandidate := by
      funext flagged i
      simp only [State.isCandidate, hs]
      cases s.store.slots[i] with
      | none => rfl
      | some l =>
        obtain ⟨state, addr⟩ := hf l
        simp only [Option.map_some, Line.bank, state, addr]
        rfl
    have offer : State.drainOffer { s with store := st } = s.drainOffer := by
      simp only [State.drainOffer, candidate, ha]
    simp only [State.choice, offer]
    rfl

theorem aged (s : State) : WorkStands s { s with store := s.store.ageAll } :=
  of_lines s.store.ageAll_ageList s.store.ageAll_slot fun l => ⟨State.agedLine_state l, State.agedLine_addr l⟩

theorem milliStep (s : State) : WorkStands s s.milliStep := by
  have lines := aged s
  unfold State.milliStep
  generalize s.store.ageAll = st at lines
  dsimp only
  split
  · exact lines.trans {}
  · exact (lines.trans {}).trans (countBanks _ fun _ => rfl)

/-- A CLK cycle moves counters, ages and counts of timers alone (R196, R197). -/
theorem clockCycle (s : State) : WorkStands s s.clockCycle := by
  have access : ∀ u : State, WorkStands u u.tickAccess := fun u => by
    unfold State.tickAccess
    split
    · exact { free := nofun }
    · exact {}
  have settle : ∀ u : State, WorkStands u u.tickSettle := fun u => by
    unfold State.tickSettle
    split
    · exact {}
    · exact .trans (t := { u with clock := { u.clock with tenMicro := 0 } }) {} (countBanks _ fun _ => rfl)
  have idle : ∀ u : State, WorkStands u u.tickIdle := fun u => by
    unfold State.tickIdle
    split
    · exact {}
    · exact .trans (t := { u with clock := { u.clock with hundred := 0 } }) {} (countBanks _ fun _ => rfl)
  have milli : ∀ u : State, WorkStands u u.tickMilli := fun u => by
    unfold State.tickMilli
    split
    · exact {}
    · exact .trans (t := { u with clock := { u.clock with milli := 0 } }) {} (milliStep _)
  unfold State.clockCycle
  split
  · exact {}
  · exact .trans (t := { s with clock := { s.clock with divider := 0 } }) {}
      ((access _).trans ((settle _).trans ((idle _).trans (milli _))))

end WorkStands

/-! ## Every command -/

namespace State.NoWorkAtFreePort

variable {s u : State}

/-- A reply bears on the management port alone. -/
theorem reply {n : Nat} {status : MgmtStatus} {results : List Byte} (h : u.NoWorkAtFreePort) :
    (u.reply n status results).NoWorkAtFreePort := h

theorem accept : (s.accept u).NoWorkAtFreePort := reply finish_noWork

theorem writeInRange {c : Bool} {effect : State → State} (h : s.NoWorkAtFreePort) (he : (effect s).NoWorkAtFreePort) :
    (s.writeInRange c effect).NoWorkAtFreePort := by
  unfold State.writeInRange
  split
  · exact he.reply
  · exact h.reply

theorem writeConfig (h : s.NoWorkAtFreePort) (v : BitVec 16) : (s.writeConfig v).NoWorkAtFreePort := by
  have divided : WorkStands s (s.setTickDiv v) := {}
  unfold State.writeConfig
  split
  · split
    · exact reply (divided.noWork h)
    · split
      · exact reply finish_noWork
      · exact h.reply
  · exact h.reply

theorem regWrite (h : s.NoWorkAtFreePort) (number : Byte) (v : BitVec 16) :
    Yields NoWorkAtFreePort (execRegWrite number v s) := by
  refine .onFrame h ?_
  split
  · exact .next h.reply
  iterate 2 exact .next (h.writeInRange (WorkStands.noWork {} h))
  iterate 9 exact .next h.reply
  · exact .next (h.writeConfig v)
  iterate 2 exact .next (h.writeInRange finish_noWork)
  iterate 3 exact .next (h.writeInRange (WorkStands.noWork {} h))
  iterate 2 exact .next (h.writeInRange (WorkStands.noWork (.policy ..) h))

theorem counterHighRead (h : s.NoWorkAtFreePort) (number : Byte) :
    Yields NoWorkAtFreePort (execCounterHighRead number s) := by
  refine .onFrame h ?_
  split
  · exact .next h.reply
  next r _ => exact .next (reply ((WorkStands.captureLow s r).noWork h))

theorem regionWrite (h : s.NoWorkAtFreePort) (entry flags : Byte) (base limit : BitVec 24) (initiators : Byte) :
    Yields NoWorkAtFreePort (execRegionWrite entry flags base limit initiators s) := by
  refine .onFrame h ?_
  split
  · refine .next ?_
    unfold State.writeRegion
    split
    · exact reply finish_noWork
    · exact h.reply
  · exact .next h.reply

theorem faultPopRemoval (h : s.NoWorkAtFreePort) (shifted : Nat) :
    Yields NoWorkAtFreePort (execFaultPopRemoval shifted s) := by
  have left : WorkStands s s.endFrame := {}
  unfold execFaultPopRemoval
  split
  · exact .next (left.noWork h)
  · exact .cond (fun _ => .next finish_noWork) fun _ => .next (left.noWork h)

theorem flush (h : s.NoWorkAtFreePort) (bank : Byte) : Yields NoWorkAtFreePort (execFlush bank s) := by
  refine .onFrame h ?_
  split
  · exact .next h.reply
  next b _ =>
    refine .next ?_
    unfold State.orderFlush
    split
    · exact h.reply
    · split
      · exact h.reply
      · exact reply finish_noWork

theorem clearUnlogged (h : s.NoWorkAtFreePort) (bank : Byte) : Yields NoWorkAtFreePort (execClearUnlogged bank s) := by
  refine .onFrame h ?_
  split
  · exact .next h.reply
  · exact .next (reply finish_noWork)

/-! ### Orders -/

theorem order (h : s.NoWorkAtFreePort) (bank : Byte) {action : BankNo → State} (ha : ∀ b, (action b).NoWorkAtFreePort) :
    Yields NoWorkAtFreePort (s.onFrame (.next (s.order bank action))) := by
  refine .onFrame h (.next ?_)
  unfold State.order
  split
  · exact h.reply
  · split
    · exact ha _
    · exact h.reply

theorem orderWake (h : s.NoWorkAtFreePort) (b : BankNo) : (s.orderWake b).NoWorkAtFreePort := by
  unfold State.orderWake
  split
  iterate 2 exact accept
  · exact reply (WorkStands.noWork (.setBank s b fun _ => rfl) h)
  · split
    · exact accept
    · exact h.reply
  all_goals exact h.reply

theorem orderRetain (h : s.NoWorkAtFreePort) (b : BankNo) : (s.orderRetain b).NoWorkAtFreePort := by
  unfold State.orderRetain
  iterate 3
    split
    · exact h.reply
  exact accept

theorem orderOff (h : s.NoWorkAtFreePort) (b : BankNo) : (s.orderOff b).NoWorkAtFreePort := by
  unfold State.orderOff
  split
  · split
    · exact h.reply
    · exact accept
  · exact h.reply

theorem orderRetry (h : s.NoWorkAtFreePort) (b : BankNo) : (s.orderRetry b).NoWorkAtFreePort := by
  unfold State.orderRetry
  split
  · exact accept
  all_goals exact h.reply

theorem orderDiscard (h : s.NoWorkAtFreePort) (b : BankNo) : (s.orderDiscard b).NoWorkAtFreePort := by
  unfold State.orderDiscard
  split
  · exact accept
  · exact h.reply

theorem orderClear (h : s.NoWorkAtFreePort) (b : BankNo) : (s.orderClear b).NoWorkAtFreePort := by
  unfold State.orderClear
  split
  · exact h.reply
  · split
    iterate 3 exact accept
    all_goals exact h.reply

theorem orderUnlost (h : s.NoWorkAtFreePort) (b : BankNo) : (s.orderUnlost b).NoWorkAtFreePort := by
  unfold State.orderUnlost
  split
  · exact h.reply
  · exact reply (WorkStands.noWork (.setBank s b fun _ => rfl) h)

/-! ### The ports and the level inputs -/

theorem requestTaken (h : s.NoWorkAtFreePort) (r : Request) : Yields NoWorkAtFreePort (execRequestTaken r s) := by
  unfold execRequestTaken
  split
  · exact .cond (fun _ => .next finish_noWork) fun _ => .next h
  · exact .fault _

theorem completion (h : s.NoWorkAtFreePort) (number : BitVec 8) (report : Report) (data : Vector Word 8) :
    Yields NoWorkAtFreePort (execCompletion number report data s) := by
  have late : WorkStands s s.lateCompletion := {}
  unfold execCompletion
  split
  · exact .cond (fun _ => .next (finishCompletion_noWork)) fun _ => .next (late.noWork h)
  · exact .next (late.noWork h)

theorem accessTimeout (h : s.NoWorkAtFreePort) : Yields NoWorkAtFreePort (execAccessTimeout s) := by
  unfold execAccessTimeout
  split
  · exact .next finish_noWork
  · exact .next h

theorem lineChange (h : s.NoWorkAtFreePort) (b : BankNo) (level : StatusLevel) (settled : Bool) :
    ((s.drive b level settled).lineChange s b).NoWorkAtFreePort := by
  have sampled := (WorkStands.sampled s b level settled).noWork h
  have changed : ((s.drive b level settled).settledChange s b).NoWorkAtFreePort := by
    unfold State.settledChange
    split
    · exact finish_noWork
    · exact sampled
  unfold State.lineChange
  dsimp only
  split
  iterate 2
    · split
      · exact finish_noWork
      · exact sampled
  · exact sampled
  all_goals exact changed

/-- While RESETn is asserted nothing is granted (R134), whatever waited before. -/
theorem resetnAssertion (s : State) : Yields NoWorkAtFreePort (exec .resetnAssertion s) := by
  cases asserted : s.pins.resetn with
  | true =>
    have same : exec .resetnAssertion s = .next s := if_pos asserted
    rw [same]
    refine .next fun hr => ?_
    rw [asserted] at hr
    cases hr
  | false =>
    rw [exec_resetnAssertion asserted]
    exact .next finish_noWork

end State.NoWorkAtFreePort

/-- Every command leaves no work at a FREE port that found none there. -/
theorem exec_noWork {s : State} (h : s.NoWorkAtFreePort) (c : Instr) : Yields State.NoWorkAtFreePort (exec c s) := by
  have same : Yields State.NoWorkAtFreePort (.next s) := .next h
  have ended : ∀ {u pre : State} {released : Bool}, Yields State.NoWorkAtFreePort (.next (u.finish pre released)) :=
    .next finish_noWork
  have replied : ∀ (n : Nat) (status : MgmtStatus) (results : List Byte),
      Yields State.NoWorkAtFreePort (.next (s.reply n status results)) := fun _ _ _ => .next h.reply
  have framed : ∀ {u : State}, u.NoWorkAtFreePort → Yields State.NoWorkAtFreePort (s.onFrame (.next u)) := fun hu =>
    .onFrame h (.next hu)
  have stands : ∀ {u : State}, WorkStands s u → u.NoWorkAtFreePort := fun k => k.noWork h
  cases c with
  | requestTaken r => exact h.requestTaken r
  | completion number report data => exact h.completion number report data
  | accessTimeout => exact h.accessTimeout
  | settleTimeout b => exact .cond (fun _ => ended) fun _ => same
  | statusLineChange b level settled =>
    exact .cond (fun _ => .next (h.lineChange b level settled)) fun _ => .next (stands {})
  | idleTimerExpiry b => exact .cond (fun _ => ended) fun _ => same
  | offTimerExpiry b => exact .cond (fun _ => ended) fun _ => same
  | ageExpiry b => exact .cond (fun _ => ended) fun _ => same
  | supwarnAssertion => exact .cond (fun _ => same) fun _ => ended
  | supwarnNegation => exact .cond (fun _ => ended) fun _ => same
  | fltpassAssertion => exact .cond (fun _ => same) fun _ => ended
  | fltpassNegation => exact .cond (fun _ => ended) fun _ => same
  | resetnAssertion => exact .resetnAssertion s
  | resetnNegation => exact .cond (fun _ => ended) fun _ => same
  | powerOnReset => exact ended
  | invalidCommand frame =>
    exact .cond (fun _ => framed h.reply) fun _ => .cond (fun _ => framed (stands {})) fun _ => .fault _
  | status => exact framed h.reply
  | counterHighRead number => exact h.counterHighRead number
  | regWrite number v => exact h.regWrite number v
  | configWrite v => exact framed (h.writeConfig v)
  | hwmWrite v => exact framed (h.writeInRange finish_noWork)
  | ageLimitWrite v => exact framed (h.writeInRange finish_noWork)
  | irqStatusWrite v => exact framed (h.writeInRange (stands {}))
  | irqEnableWrite v => exact framed (h.writeInRange (stands {}))
  | resetRecordWrite v => exact framed (h.writeInRange (stands {}))
  | bankPolicyAWrite b v => exact framed (h.writeInRange (stands (.policy ..)))
  | bankPolicyBWrite b v => exact framed (h.writeInRange (stands (.policy ..)))
  | regionRead entry => exact .onFrame h (by split <;> exact replied _ _ _)
  | regionWrite entry flags base limit initiators => exact h.regionWrite entry flags base limit initiators
  | slotRead slot => exact .onFrame h (by split <;> exact replied _ _ _)
  | wakeOrder bank => exact h.order bank h.orderWake
  | retainOrder bank => exact h.order bank h.orderRetain
  | offOrder bank => exact h.order bank h.orderOff
  | retryOrder bank => exact h.order bank h.orderRetry
  | discardOrder bank => exact h.order bank h.orderDiscard
  | clearOrder bank => exact h.order bank h.orderClear
  | unlostOrder bank => exact h.order bank h.orderUnlost
  | flush bank => exact h.flush bank
  | flushAll => exact framed (.reply finish_noWork)
  | faultPeek => exact .onFrame h (by split <;> exact replied _ _ _)
  | faultPop =>
    refine .onFrame h ?_
    split
    · exact replied _ _ _
    · exact .next (stands {})
  | faultPopRemoval shifted => exact h.faultPopRemoval shifted
  | clearUnlogged bank => exact h.clearUnlogged bank
  | millisecondCounterStep => exact .next (stands (.milliStep s))

/-! ## Every step -/

/-- Where the command taken is not the assertion of RESETn, nothing fell together with one (R202). -/
theorem noWork_taken {s : State} {c : Instr} {rest : List Instr} (h : s.NoWorkAtFreePort) (hp : s.pending = c :: rest)
    (hc : c ≠ .resetnAssertion) : State.NoWorkAtFreePort { s with pending := rest } := fun hr _ hf =>
  h hr (by simp [State.resetFollows, hp, hc]) hf

/-- Settles O19: each event ends with a grant or, at a completion that the assertion of RESETn follows, with that assertion next;
what is no event leaves the Arbiter's choice. -/
theorem stepLeavesNoWorkAtAFreePort : Obligations.StepLeavesNoWorkAtAFreePort := by
  intro s t h hs
  unfold step at hs
  split at hs
  · unfold idle at hs
    split at hs
    next c _ => exact exec_noWork h c t hs
    · injection hs with hs
      exact hs ▸ (WorkStands.clockCycle s).noWork h
  next c rest hp =>
    by_cases hc : c = .resetnAssertion
    · subst hc
      exact State.NoWorkAtFreePort.resetnAssertion _ t hs
    · exact exec_noWork (noWork_taken h hp hc) c t hs

end Sys2Proof.Machine

/-! A late completion counts and does nothing else (R133); its count is read and not written (R190), and a warm reset keeps
it. -/

namespace Sys2Proof.Machine

section
variable {s : State}

/-- A completion with another number than that of the operation in flight, or with none in flight, is late (R133). -/
theorem exec_completion_late {number : BitVec 8} (report : Report) (data : Vector Word 8)
    (h : s.port.inFlight.all (fun op => op.number != number) = true) :
    exec (.completion number report data) s = .next s.lateCompletion := by
  show execCompletion number report data s = _
  unfold execCompletion
  cases hf : s.port.inFlight with
  | none => rfl
  | some op =>
    have other : op.number ≠ number := by simpa [hf] using h
    exact if_neg other

theorem lateCompletion_eq (s : State) : s.lateCompletion = { s with
    port := { s.port with lateCount := if s.port.lateCount = 255 then 255 else s.port.lateCount + 1 } } := by
  rw [State.lateCompletion, satInc_eq]
  rfl

/-- The two result bytes of a register of 8 bits (R186). -/
theorem bytesOf_two_of_byte (v : Byte) : bytesOf 2 v.toNat = [0, v] := by
  have upper : v.toNat / 256 = 0 := Nat.div_eq_of_lt v.isLt
  simp [bytesOf, List.range_succ, upper]

theorem exec_lateCount_read (h : s.awaitRise = false) : exec (.counterHighRead 0x08) s =
    .next { s with mgmt := some ⟨1, .done, [0, s.port.lateCount], false⟩ } := by
  rw [← bytesOf_two_of_byte]
  exact State.onFrame_taken h _

theorem exec_lateCount_write (h : s.awaitRise = false) (v : BitVec 16) : exec (.regWrite 0x08 v) s =
    .next { s with mgmt := some ⟨3, .refused, [], false⟩ } := State.onFrame_taken h _

/-- A warm reset keeps the late-completion count (R139). -/
theorem exec_resetnAssertion_lateCount (s : State) :
    ∃ t, exec .resetnAssertion s = .next t ∧ t.port.lateCount = s.port.lateCount := by
  cases asserted : s.pins.resetn with
  | true => exact ⟨s, if_pos asserted, rfl⟩
  | false => exact ⟨_, exec_resetnAssertion asserted, (finish_eventEnd (resetAsserted s) s false).lateCount⟩

end

/-- Settles O30: the count's one change, its read and its refused write, and what the resets make of it. -/
theorem lateCompletionOnlyCounts : Obligations.LateCompletionOnlyCounts := by
  intro s number report data v
  refine ⟨fun h => ?_, fun h => ⟨exec_lateCount_read h, exec_lateCount_write h v⟩, ?_, exec_resetnAssertion_lateCount s⟩
  · rw [exec_completion_late report data h, lateCompletion_eq]
  · obtain ⟨t, ht, -, -, -, -, -, port, -⟩ := powerOnResetGivesThePowerOnValues.2 s
    exact ⟨t, ht, by rw [port]; rfl⟩

end Sys2Proof.Machine

/-! The contents of a bank (section 7): UNLOST and CLEAR (R142, R144, R145), and the completion of a zero-line write (R148 to
R150). -/

namespace Sys2Proof.Machine

/-! ## How a wake moves the Clear Engine (R80, R81) -/

section
variable (s : State) (b : BankNo)

/-- The settle event of a wake leaves the Clear Engine alone, or its bank enters CLEARING. -/
theorem settleWaking_clear_cases (o : Rest) :
    (s.settleWaking b o).clear = s.clear ∨ (s.settleWaking b o).clear = (s.enterClearing b o).clear := by
  cases o with
  | retain =>
    simp only [State.settleWaking]
    split
    · exact .inr rfl
    · exact .inl rfl
  | off =>
    simp only [State.settleWaking]
    split
    · exact .inr rfl
    · exact .inl rfl

theorem wake_clear_cases (o : Rest) :
    (s.wake b o).clear = s.clear ∨ (s.wake b o).clear = (s.enterClearing b o).clear := by
  unfold State.wake
  dsimp only
  split
  · exact settleWaking_clear_cases (raised s b o) b o
  · exact .inl rfl

theorem demand_clear_cases :
    (s.demand b).clear = s.clear ∨ ∃ o, (s.demand b).clear = (s.enterClearing b o).clear := by
  unfold State.demand
  split
  · split
    · exact (wake_clear_cases s b .off).imp_right fun h => ⟨.off, h⟩
    · exact (wake_clear_cases s b .retain).imp_right fun h => ⟨.retain, h⟩
    all_goals exact .inl rfl
  · exact .inl rfl

end

theorem enterClearing_wanted_other (s : State) {b c : BankNo} (o : Rest) (h : b ≠ c) :
    (s.enterClearing b o).clear.wanted[c] = s.clear.wanted[c] := updAt_ne _ _ h

/-! ## A clear that waits for its bank (R145, R146) -/

/-- A bank on its way up has its clear pending. -/
structure ClearAwaited (b : BankNo) (s : State) : Prop where
  waking : ∃ o, s.bankState b = .waking o
  wanted : s.clear.wanted[b] = true

theorem demand_waking {s : State} {b : BankNo} {o : Rest} (h : s.bankState b = .waking o) : s.demand b = s := by
  unfold State.demand
  rw [h]
  exact ite_self s

namespace ClearAwaited

variable {b : BankNo} {s : State}

/-- A demand on another bank moves that bank alone; on this one it finds it WAKING (R77). -/
theorem demand (h : ClearAwaited b s) (c : BankNo) : ClearAwaited b (s.demand c) := by
  obtain ⟨⟨o, waking⟩, wanted⟩ := h
  by_cases e : c = b
  · subst e
    rw [demand_waking waking]
    exact ⟨⟨o, waking⟩, wanted⟩
  · refine ⟨⟨o, ?_⟩, ?_⟩
    · rw [State.bankState, State.demand_other s e]
      exact waking
    · rcases demand_clear_cases s c with same | ⟨q, entered⟩
      · rw [same]
        exact wanted
      · rw [entered, enterClearing_wanted_other s q e]
        exact wanted

theorem addCause (h : ClearAwaited b s) (c : BankNo) (f : DrainCauses → DrainCauses) : ClearAwaited b (s.addCause c f) := by
  have joined : ClearAwaited b (s.setCauses c f) := ⟨h.waking, h.wanted⟩
  unfold State.addCause
  split
  · exact h
  · split
    · exact joined
    · exact joined.demand c

theorem takeAgeExpiries (h : ClearAwaited b s) (pre : State) : ClearAwaited b (State.takeAgeExpiries pre s) := by
  refine List.foldlRecOn (List.finRange 8) _ h fun t ht c _ => ?_
  split
  · exact ht.addCause c _
  · exact ht

theorem pressureChoice (h : ClearAwaited b s) : ClearAwaited b s.pressureChoice := by
  unfold State.pressureChoice
  split
  · dsimp only
    split
    · exact h.addCause _ _
    · exact h
  · exact h

/-- The clear stays pending through the end of an event that leaves the queue to rest, since a walk alone withdraws it. -/
theorem finish {pre : State} {released : Bool} (h : ClearAwaited b s) (rests : State.runQueue pre released s = s) :
    (s.finish pre released).clear.wanted[b] = true := by
  have reached : ClearAwaited b (s.untilGrant pre released) := by
    rw [State.untilGrant, rests]
    exact (h.takeAgeExpiries pre).pressureChoice
  rw [State.finish, afterGrant_eq, (grant_end _).wanted]
  exact reached.wanted

end ClearAwaited

/-! ## UNLOST and CLEAR -/

/-- A bank that is not settled at ACTIVE when it is raised waits for its lines (R74, R78). -/
theorem wake_unsettled {s : State} {b : BankNo} {o : Rest}
    (h : (s.banks[b].settled && s.banks[b].reported == .active) = false) : s.wake b o = raised s b o := by
  have unsettled : (raised s b o).banks[b].atRequest = false := by
    rw [raised_bank]
    exact h
  exact if_neg (Bool.eq_false_iff.mp unsettled)

/-- A bank that leaves its rest for WAKING is no release event (R60). -/
theorem raised_rests {s pre : State} {b : BankNo} {o : Rest} (hb : s.banks = pre.banks) (hh : s.faults = pre.faults)
    (hp : s.pins = pre.pins) (hs : s.store = pre.store) : State.runQueue pre false (raised s b o) = raised s b o := by
  refine State.runQueue_rests (fun c => ?_) (congrArg FaultLog.hold hh) (congrArg Pins.fltpass hp) fun i occupied => ?_
  · by_cases e : b = c
    · subst e
      rw [State.bankState, raised_bank]
      exact ⟨nofun, nofun⟩
    · have other : (raised s b o).banks[c] = s.banks[c] := (updAt_ne _ _ e).trans (updAt_ne _ _ e)
      rw [State.bankState, State.bankState, other, hb]
      exact ⟨id, id⟩
  · show (s.store.slots[i]).isSome = true
    rw [hs]
    exact occupied

section
variable {s : State} {b : BankNo} (hl : s.lineCount b = 0) (he : s.entryCount b = 0)
include hl he

theorem orderClear_active (h : s.bankState b = .active) : s.orderClear b = s.accept (s.enterClearing b .retain) := by
  rw [State.orderClear, if_neg (by simp [hl, he]), h]

theorem orderClear_rest {o : Rest} (h : s.bankState b = o.state) :
    s.orderClear b = s.accept ((s.setClearPending b true).wake b o) := by
  rw [State.orderClear, if_neg (by simp [hl, he]), h]
  cases o <;> rfl

end

/-- Settles O59: UNLOST has no end of an event; that of CLEAR keeps a CLEARING bank and its place in the clear queue, and a
WAKING bank with its clear pending. -/
theorem clearAndUnlostSettleTheContents : Obligations.ClearAndUnlostSettleTheContents := by
  intro s bank b hw hb hf
  have taken := fun action => order_taken action hw hb hf
  refine ⟨fun quiet => ?_, fun lines entries active => ?_, fun o lines entries rests hh => ?_⟩
  · exact (taken s.orderUnlost).trans (congrArg _ (if_neg (Bool.eq_false_iff.mp quiet)))
  · refine ⟨_, (taken s.orderClear).trans (congrArg _ (orderClear_active lines entries active)), rfl, ?_⟩
    have ends := finish_eventEnd (s.enterClearing b .retain) s false
    have record : (s.enterClearing b .retain).banks[b] = _ := State.setBank_same s b _
    have kept : TimersOnly (s.enterClearing b .retain).banks[b] ((s.enterClearing b .retain).finish s false).banks[b] :=
      (ends.bank b).stays (by rw [record]; rfl)
    refine ⟨kept.state.trans (by rw [record]), ends.clearQueue, kept.lost.trans (by rw [record]), fun first => ?_⟩
    have nonempty : (s.enterClearing b .retain).clear.queue ≠ [] := List.append_ne_nil_of_right_ne_nil _ nofun
    obtain ⟨cursor, incomplete⟩ := ends.cursor nonempty
    refine ⟨cursor.trans ?_, incomplete.trans ?_⟩ <;> simp [State.enterClearing, first]
  · refine ⟨_, (taken s.orderClear).trans (congrArg _ (orderClear_rest lines entries rests)), rfl, ?_⟩
    have unsettled := rest_notSettledAt hh rests (level := .active) (by cases o <;> decide)
    obtain ⟨state, request, timer, count, -⟩ := wake_ends (s := s.setClearPending b true)
      (finish_eventEnd ((s.setClearPending b true).wake b o) s false) unsettled
    refine ⟨state, ?_, request, timer, count⟩
    have waits : (s.setClearPending b true).wake b o = raised (s.setClearPending b true) b o := wake_unsettled unsettled
    have awaited : ClearAwaited b (raised (s.setClearPending b true) b o) := by
      refine ⟨⟨o, ?_⟩, updAt_self _ _ _⟩
      rw [State.bankState, raised_bank]
    rw [waits]
    exact awaited.finish (raised_rests rfl rfl rfl rfl)

/-! ## A clear that begins at line 0 (R144, R150) -/

/-- The cursor stands at line 0, and no zero-line write of the clear has failed. -/
def ClearAtStart (s : State) : Prop := s.clear.cursor = 0 ∧ s.clear.incomplete = false

namespace ClearAtStart

variable {s t : State}

/-- A bank that joins the clear queue leaves the cursor at line 0, whether or not the queue was empty (R144). -/
theorem enterClearing (h : ClearAtStart s) (b : BankNo) (o : Rest) : ClearAtStart (s.enterClearing b o) := by
  obtain ⟨cursor, incomplete⟩ := h
  simp [ClearAtStart, State.enterClearing, cursor, incomplete]

theorem congr (h : ClearAtStart s) (hc : t.clear = s.clear) : ClearAtStart t := by
  rw [ClearAtStart, hc]
  exact h

theorem step (h : ClearAtStart s) (k : EndStep s t) : ClearAtStart t := by
  cases k with
  | wake b o hf hb =>
    rcases wake_clear_cases s b o with same | entered
    · exact h.congr same
    · exact (h.enterClearing b o).congr entered
  | grantEntry k hr hf hk =>
    unfold State.grantEntry
    split
    · exact h
    · dsimp only
      split <;> exact h
  | grantDrain i cls hr hf hi =>
    unfold State.grantDrain
    split
    · exact h
    · cases cls <;> exact h
  | _ => exact h

theorem steps (h : ClearAtStart s) (k : EndSteps s t) : ClearAtStart t := by
  induction k with
  | refl => exact h
  | tail _ k ih => exact ih.step k

end ClearAtStart

/-! ## The routing of a zero-line write's completion, case by case -/

/-- The state from which the cursor advances: the report has been taken, and no zero-line write is outstanding (R148, R149). -/
def zeroLineAnswered (s : State) (b : BankNo) (report : Report) : State :=
  let s1 := match report with
    | .ok => s
    | .error => s.clearFailed b
  { s1 with clear := { s1.clear with outstanding := false } }

section
variable (s : State) (b : BankNo) (report : Report)

theorem zeroLineAnswered_banks : (zeroLineAnswered s b report).banks = s.banks := by
  cases report with
  | ok => rfl
  | error => exact State.handFault_banks ..

theorem zeroLineAnswered_irq : (zeroLineAnswered s b report).irq = s.irq := by
  cases report with
  | ok => rfl
  | error => exact State.handFault_irq ..

/-- An ERROR leaves the incomplete mark (R149). -/
theorem zeroLineAnswered_clear : (zeroLineAnswered s b report).clear =
    { s.clear with incomplete := s.clear.incomplete || report == .error, outstanding := false } := by
  cases report with
  | ok => simp [zeroLineAnswered]
  | error => simp [zeroLineAnswered, State.clearFailed]

/-- An ERROR leaves a record of the cursor's line (R149). -/
theorem zeroLineAnswered_faults : (zeroLineAnswered s b report).faults = match report with
    | .ok => s.faults
    | .error =>
      (s.handFault ⟨.clearWriteError, b, some (lineInBank b s.clear.cursor.toNat), none, none, none⟩).faults := by
  cases report <;> rfl

theorem advanceClear_faults : (s.advanceClear b).faults = s.faults := by
  unfold State.advanceClear
  split <;> rfl

theorem endClear_bank : (s.endClear b).banks[b] =
    { s.banks[b] with state := .active, lost := s.clear.incomplete && s.banks[b].lost } := State.setBank_same s b _

theorem advanceClear_idleTimer (c : BankNo) : (s.advanceClear b).banks[c].idleTimer = s.banks[c].idleTimer := by
  unfold State.advanceClear
  split
  · rfl
  · by_cases e : b = c
    · subst e
      rw [endClear_bank]
    · exact congrArg BankRecord.idleTimer (State.setBank_other s _ e)

end

section
variable {s : State} {b : BankNo}

theorem routeZero_abandoned (h : s.clear.outstanding = false) (report : Report) : s.routeZero report = s :=
  if_neg (Bool.eq_false_iff.mp h)

theorem routeZero_answered (h : s.clear.outstanding = true) (hb : s.clear.queue.head? = some b) (report : Report) :
    s.routeZero report = (zeroLineAnswered s b report).advanceClear b := by
  rw [State.routeZero, if_pos h, hb]
  cases report <;> rfl

theorem advanceClear_more (h : s.clear.cursor.toNat < 262143) :
    s.advanceClear b = { s with clear := { s.clear with cursor := s.clear.cursor + 1 } } := if_pos h

theorem advanceClear_last (h : s.clear.cursor.toNat = 262143) : s.advanceClear b = s.endClear b :=
  if_neg (h ▸ lt_irrefl _)

end

theorem routeZero_idleTimer (s : State) (report : Report) (c : BankNo) :
    (s.routeZero report).banks[c].idleTimer = s.banks[c].idleTimer := by
  cases outstanding : s.clear.outstanding with
  | false => rw [routeZero_abandoned outstanding]
  | true =>
    cases head : s.clear.queue.head? with
    | none => rw [State.routeZero, if_pos outstanding, head]
    | some b => rw [routeZero_answered outstanding head, advanceClear_idleTimer, zeroLineAnswered_banks]

/-! ## The completion of a zero-line write -/

theorem exec_zeroCompletion {s : State} {op : InFlight} (hf : s.port.inFlight = some op) (hp : op.presenter = .clearEngine)
    (report : Report) (data : Vector Word 8) : exec (.completion op.number report data) s =
      .next (((s.endOperation op.bank).routeZero report).finishCompletion s op.kind.isWord) := by
  rw [exec_completion hf, State.route, hp]

/-- Whatever its report, the operation ends and its bank's idle timer starts afresh (R126, R82). -/
theorem zeroCompletion_ends (s : State) (op : InFlight) (report : Report) :
    s.OperationEnded (((s.endOperation op.bank).routeZero report).finishCompletion s op.kind.isWord) ∧
      (((s.endOperation op.bank).routeZero report).finishCompletion s op.kind.isWord).IdleTimerAfresh op.bank := by
  have frame := routeZero_frame (s.endOperation op.bank) report
  refine ⟨finishCompletion_ended (by rw [frame.port]; rfl) (by rw [frame.port]; rfl) _ _, finishCompletion_idle ?_ _ _⟩
  rw [routeZero_idleTimer, State.endOperation, State.setBank_same]

theorem endOperation_lost (s : State) (c b : BankNo) : (s.endOperation c).banks[b].lost = s.banks[b].lost := by
  by_cases e : c = b
  · subst e
    rw [State.endOperation, State.setBank_same]
  · exact congrArg BankRecord.lost (State.setBank_other _ _ e)

/-- Before the last line the cursor advances, and the bank stays CLEARING (R148). -/
theorem zeroCompletion_more {s t : State} {b c : BankNo} {report : Report}
    (ends : EventEnd ((zeroLineAnswered (s.endOperation c) b report).advanceClear b) t)
    (head : s.clear.queue.head? = some b) (clearing : (s.bankState b).isClearing = true)
    (more : s.clear.cursor.toNat < 262143) :
    t.clear.cursor = s.clear.cursor + 1 ∧ t.clear.incomplete = (s.clear.incomplete || report == .error) ∧
      s.clear.queue <+: t.clear.queue ∧ t.bankState b = s.bankState b ∧ t.banks[b].lost = s.banks[b].lost ∧
      t.irq.clearDone = s.irq.clearDone := by
  have clear := zeroLineAnswered_clear (s.endOperation c) b report
  have banks := zeroLineAnswered_banks (s.endOperation c) b report
  have irq := zeroLineAnswered_irq (s.endOperation c) b report
  have state := endOperation_bankState s c b
  have lost := endOperation_lost s c b
  rw [advanceClear_more (by rw [clear]; exact more)] at ends
  generalize zeroLineAnswered (s.endOperation c) b report = u at *
  have queue : u.clear.queue = s.clear.queue := by rw [clear]; rfl
  have nonempty : u.clear.queue ≠ [] := by
    intro empty
    rw [← queue, empty] at head
    cases head
  obtain ⟨cursor, incomplete⟩ := ends.cursor nonempty
  rw [State.bankState, ← banks] at state
  rw [← banks] at lost
  have kept : TimersOnly u.banks[b] t.banks[b] := (ends.bank b).stays <| by
    show u.banks[b].state.stays = true
    rw [state]
    cases hs : s.bankState b with
    | clearing o => rfl
    | _ => rw [hs] at clearing; cases clearing
  exact ⟨cursor.trans (by rw [clear]; rfl), incomplete.trans (by rw [clear]; rfl), queue ▸ ends.clearQueue,
    kept.state.trans state, kept.lost.trans lost, ends.clearDone.trans (congrArg InterruptLogic.clearDone irq)⟩

/-- At the last line the clear ends, and the next begins at line 0 (R150). -/
theorem zeroCompletion_last {s t : State} {b c : BankNo} {report : Report}
    (steps : EndSteps ((zeroLineAnswered (s.endOperation c) b report).advanceClear b) t)
    (last : s.clear.cursor.toNat = 262143) :
    t.bankState b = .active ∧ t.banks[b].lost = ((s.clear.incomplete || report == .error) && s.banks[b].lost) ∧
      t.irq.clearDone = true ∧ s.clear.queue.tail <+: t.clear.queue ∧ t.clear.cursor = 0 ∧
      t.clear.incomplete = false := by
  have clear := zeroLineAnswered_clear (s.endOperation c) b report
  have banks := zeroLineAnswered_banks (s.endOperation c) b report
  have lost := endOperation_lost s c b
  rw [advanceClear_last (by rw [clear]; exact last)] at steps
  generalize zeroLineAnswered (s.endOperation c) b report = u at *
  have ends := eventEnd_steps steps
  have record := endClear_bank u b
  have kept : TimersOnly (u.endClear b).banks[b] t.banks[b] := (ends.bank b).stays (by rw [record]; rfl)
  have start : ClearAtStart t := ClearAtStart.steps (s := u.endClear b) ⟨rfl, rfl⟩ steps
  have queue : (u.endClear b).clear.queue = s.clear.queue.tail := congrArg (fun c => c.queue.tail) clear
  refine ⟨kept.state.trans (by rw [record]), kept.lost.trans ?_, ends.clearDone, queue ▸ ends.clearQueue, start⟩
  rw [record, clear, banks, lost]
  rfl

/-- Settles O33: the routing of the completion to the Clear Engine, case by case, and what the end of the event keeps of
each. -/
theorem zeroLineCompletionAdvancesTheClear : Obligations.ZeroLineCompletionAdvancesTheClear := by
  intro s op b report data hf hp
  have run := exec_zeroCompletion hf hp report data
  obtain ⟨operation, idle⟩ := zeroCompletion_ends s op report
  have steps := State.finishCompletion_steps ((s.endOperation op.bank).routeZero report) s op.kind.isWord
  generalize ((s.endOperation op.bank).routeZero report).finishCompletion s op.kind.isWord = t at *
  refine ⟨fun abandoned => ?_, fun outstanding head clearing => ⟨t, run, operation, idle, ?_⟩⟩
  · rw [routeZero_abandoned (s := s.endOperation op.bank) abandoned] at steps
    have ends := eventEnd_steps steps
    exact ⟨t, run, ends.faults, ends.clearDone, ends.clearQueue, ends.cursor, operation, idle⟩
  · rw [routeZero_answered (s := s.endOperation op.bank) outstanding head] at steps
    have ends := eventEnd_steps steps
    refine ⟨?_, zeroCompletion_more ends head clearing, zeroCompletion_last steps⟩
    rw [ends.faults, advanceClear_faults, zeroLineAnswered_faults]
    cases report with
    | ok => rfl
    | error => exact handFault_faults_congr _ rfl rfl

end Sys2Proof.Machine

/-! The Fault Log (section 8). What a command does to it is a chain of small steps (`LogStep`): a fault is handed over, the head
record or an unlogged mark leaves, or the log is emptied (R154 to R159, R165, R167, R171). Each keeps the records in order and the
holds and the overflow count exact. -/

namespace Sys2Proof.Machine

open Relation

/-! ## What neither enters the log nor freezes a bank -/

/-- The Fault Log, FLTPASS and the Hold Queue stand. -/
structure FreezeStands (s t : State) : Prop where
  faults : t.faults = s.faults := by rfl
  fltpass : t.pins.fltpass = s.pins.fltpass := by rfl
  queue : t.queue = s.queue := by rfl

namespace FreezeStands

theorem trans {s t u : State} (h : FreezeStands s t) (h' : FreezeStands t u) : FreezeStands s u :=
  ⟨h'.faults.trans h.faults, h'.fltpass.trans h.fltpass, h'.queue.trans h.queue⟩

theorem milliStep (s : State) : FreezeStands s s.milliStep := by
  unfold State.milliStep
  generalize s.store.ageAll = st
  dsimp only
  split <;> exact {}

/-- A CLK cycle moves counters, ages and counts of timers alone (R196, R197). -/
theorem clockCycle (s : State) : FreezeStands s s.clockCycle := by
  have access : ∀ u : State, FreezeStands u u.tickAccess := fun u => by unfold State.tickAccess; split <;> exact {}
  have settle : ∀ u : State, FreezeStands u u.tickSettle := fun u => by unfold State.tickSettle; split <;> exact {}
  have idle : ∀ u : State, FreezeStands u u.tickIdle := fun u => by unfold State.tickIdle; split <;> exact {}
  have milli : ∀ u : State, FreezeStands u u.tickMilli := fun u => by
    unfold State.tickMilli
    split
    · exact {}
    · exact .trans (t := { u with clock := { u.clock with milli := 0 } }) {} (milliStep _)
  unfold State.clockCycle
  split
  · exact {}
  · exact .trans (t := { s with clock := { s.clock with divider := 0 } }) {}
      ((access _).trans ((settle _).trans ((idle _).trans (milli _))))

end FreezeStands

/-! ## Operations that leave the log -/

theorem enterWarn_faults (s : State) : s.enterWarn.faults = s.faults :=
  foldl_keeps State.faults (fun _ _ => by simp) _ _

theorem flushEvery_faults (s : State) : s.flushEvery.faults = s.faults :=
  foldl_keeps State.faults (fun t b => by split <;> simp [State.flushBank]) _ _

theorem leaveWarn_faults (s : State) : s.leaveWarn.faults = s.faults := by
  unfold State.leaveWarn
  split <;> rfl

theorem takeRequest_faults (s : State) (r : Request) : (s.takeRequest r).faults = s.faults := by
  have judged := s.judge_justified r
  unfold State.takeRequest State.firstEvaluation
  split
  · dsimp only
    split
    · exact (eventEnd_steps (State.perform_steps (s.appendEntry r _) r _ judged)).faults
    · exact (eventEnd_steps (State.perform_steps s r _ judged)).faults
  · rfl

theorem routeWord_faults (s : State) (report : Report) (data : Vector Word 8) :
    (s.routeWord report data).faults = s.faults := by
  unfold State.routeWord
  split
  · rfl
  · split
    · rfl
    · split <;> rfl

/-! ## The small steps -/

/-- One small step of the Fault Log. -/
inductive LogStep (s : State) : State → Prop where
  | kept {t : State} (h : t.faults = s.faults) : LogStep s t
  /-- A fault is handed over (R156 to R158). -/
  | handed (rep : FaultReport) : LogStep s (s.handFault rep)
  /-- The head record leaves (R165). -/
  | headRemoved : LogStep s s.removeHead
  /-- The unlogged mark of a bank is cleared (R167). -/
  | markCleared (b : BankNo) : LogStep s (s.clearUnlogged b)
  /-- Power-on reset empties the log (R171). -/
  | emptied {t : State} (h : t.faults = FaultLog.reset) : LogStep s t

/-- A chain of small steps of the Fault Log. -/
abbrev LogSteps : State → State → Prop := ReflTransGen LogStep

namespace LogSteps

theorem kept {s t : State} (h : t.faults = s.faults) : LogSteps s t := .single (.kept h)

/-- A fault is handed over within other changes. -/
theorem handed {s u t : State} (rep : FaultReport) (hu : u.faults = s.faults)
    (ht : t.faults = (u.handFault rep).faults) : LogSteps s t :=
  .head (.kept hu) (.head (.handed rep) (kept ht))

theorem foldl {α : Type} {f : State → α → State} (hf : ∀ s a, LogSteps s (f s a)) (l : List α) (s : State) :
    LogSteps s (l.foldl f s) := by
  induction l generalizing s with
  | nil => exact .refl
  | cons a l ih => exact (hf s a).trans (ih _)

/-! ## A command's own effect -/

theorem failBank {s u : State} (hu : u.faults = s.faults) (b : BankNo) (kind : FaultKind) :
    LogSteps s (u.failBank b kind) :=
  handed (u := u.makeStuck b) _ ((State.makeStuck_faults u b).trans hu) rfl

theorem sampleAtRest {s u : State} (hu : u.faults = s.faults) (b : BankNo) : LogSteps s (u.sampleAtRest b) := by
  unfold State.sampleAtRest
  dsimp only
  split
  · exact kept hu
  · exact failBank (u := u.sampleLines b) hu b .unsolicitedChange

theorem refit (s : State) (v : BitVec 16) : LogSteps s (s.refit v) := by
  refine .head (.kept (t := { s with regs := { s.regs with banksFitted := v.extractLsb' 0 4 } }) rfl)
    (foldl (fun t b => ?_) _ _)
  unfold State.fitBank
  split
  · exact sampleAtRest (s := t) (u := t.setBank b fun _ => BankRecord.reset) rfl b
  · exact .refl

theorem routeLine (s : State) (i : SlotNo) (report : Report) : LogSteps s (s.routeLine i report) := by
  unfold State.routeLine
  split
  · exact .refl
  next l _ =>
    split
    · exact .refl
    · exact kept (State.afterFreeing_faults _ l.bank)
    · exact kept rfl
    · exact handed (u := s) _ rfl (State.afterFreeing_faults _ l.bank)

theorem routeZero (s : State) (report : Report) : LogSteps s (s.routeZero report) := by
  unfold State.routeZero
  split
  · split
    · exact .refl
    next b _ =>
      cases report with
      | ok => exact kept (advanceClear_faults _ b)
      | error => exact handed (u := s) _ rfl (advanceClear_faults _ b)
  · exact .refl

theorem complete (s : State) (op : InFlight) (report : Report) (data : Vector Word 8) :
    LogSteps s ((s.endOperation op.bank).route op report data) := by
  refine .head (.kept (t := s.endOperation op.bank) rfl) ?_
  unfold State.route
  split
  · exact kept (routeWord_faults _ report data)
  · exact routeLine _ _ report
  · exact routeZero _ report

theorem timeOut (s : State) (op : InFlight) : LogSteps s (s.timeOut op) := by
  refine handed _ ?_ rfl
  rw [State.makeStuck_faults, tellTimeout_eq]
  rfl

theorem discardBank (s : State) (b : BankNo) : LogSteps s (s.discardBank b) := by
  rw [discardBank_eq]
  exact handed (u := s) _ rfl ((State.descend_faults ..).trans (discarded_faults s _ b))

end LogSteps

open LogSteps in
/-- Every command's own effect is a chain of small steps of the Fault Log. -/
theorem ownEffect_log {s u : State} (h : OwnEffect s u) : LogSteps s u := by
  cases h with
  | take r hp hm => exact .kept (takeRequest_faults s r)
  | complete op report data h => exact .complete s op report data
  | timeOut op h => exact .timeOut s op
  | settleTimeout b h => exact .failBank rfl b _
  | settleWaking b level settled o hf h => exact .kept (State.settleWaking_faults ..)
  | settleDescending b level settled o hf h => exact .kept (State.settleDescending_faults ..)
  | unsolicited b level settled hf => exact .failBank (s := s) (u := (s.drive b level settled).sampleLines b) rfl b _
  | descend b o => exact .kept (State.descend_faults ..)
  | cause b f => exact .kept (State.addCause_faults ..)
  | flushEvery => exact .kept (flushEvery_faults s)
  | warn => exact .kept (enterWarn_faults (s.driveSupwarn true))
  | leaveWarn => exact .kept (leaveWarn_faults (s.driveSupwarn false))
  | warmReset h =>
    obtain ⟨-, -, -, faults, -⟩ := resetAsserted_rest s
    exact .kept faults
  | removeHead => exact .head (.kept (t := s.endFrame) rfl) (.single .headRemoved)
  | clearUnlogged b => exact .single (.markCleared b)
  | capture r => cases r <;> exact .kept rfl
  | refit v h hm => exact .head (.kept (t := s.setTickDiv v) rfl) (LogSteps.refit _ v)
  | wake b o hf h => exact .kept (State.wake_faults ..)
  | discard b hf h => exact .discardBank s b
  | clearWake b o hf h hl => exact .kept (State.wake_faults ..)
  | millisecond => exact .kept (FreezeStands.milliStep s).faults
  | _ => exact .kept rfl

theorem sampleInputs_log (s : State) : LogSteps s s.sampleInputs := by
  have sampled : LogSteps s ((List.finRange 8).foldl State.sampleAtRest s) :=
    .foldl (fun t b => .sampleAtRest rfl b) _ s
  unfold State.sampleInputs
  dsimp only
  split
  · exact .tail sampled (.kept (enterWarn_faults _))
  · exact sampled

/-- So is every command: what follows an event leaves the log. -/
theorem result_log {s t : State} (h : Result s t) : LogSteps s t := by
  induction h with
  | plain h => exact ownEffect_log h
  | ended h released => exact .tail (ownEffect_log h) (.kept (finish_eventEnd _ s released).faults)
  | completed h released => exact .tail (ownEffect_log h) (.kept (finishCompletion_eventEnd _ s released).faults)
  | replied h n status results ih => exact .tail ih (.kept rfl)
  | reset =>
    exact .head (.emptied (t := s.powerOn) rfl)
      (.tail (sampleInputs_log _) (.kept (finish_eventEnd _ s.powerOn false).faults))

/-! ## Every step -/

/-- A step is a chain of small steps of the Fault Log. -/
theorem step_log {s t : State} (h : step s = .next t) : LogSteps s t := by
  rcases step_result h with ⟨rest, k⟩ | rfl
  · exact .head (.kept (t := { s with pending := rest }) rfl) (result_log k)
  · exact .kept (FreezeStands.clockCycle s).faults

/-! ## A fault joins the log or is counted (R156 to R158) -/

theorem updAt_true {n : Nat} (v : Vector Bool n) (i j : Fin n) : (updAt v i fun _ => true)[j] = (j == i || v[j]) := by
  by_cases e : i = j
  · subst e
    rw [updAt_self, beq_self_eq_true, Bool.true_or]
  · rw [updAt_ne _ _ e, beq_eq_false_iff_ne.mpr (Ne.symm e), Bool.false_or]

/-- Settles O39, by whether the log has room. -/
theorem faultsJoinTheLogOrAreCounted : Obligations.FaultsJoinTheLogOrAreCounted := by
  intro s f
  refine ⟨handFault_eq s f, fun b => ?_, fun room => ?_, fun full => ?_⟩
  · rw [State.handFault_hold]
    exact updAt_true _ _ b
  · rw [State.handFault_added s f room]
    exact ⟨rfl, rfl, rfl, rfl⟩
  · rw [State.handFault_dropped s f (Nat.not_lt.mpr full)]
    exact ⟨rfl, rfl, satInc_eq _, updAt_true _ _⟩

/-! ## The records stay in order (law L9) -/

/-- Law L9 asks for the records and the next sequence number alone. -/
theorem logOrdered_congr {s t : State} (hr : t.faults.records = s.faults.records)
    (hn : t.faults.nextSeq = s.faults.nextSeq) (h : s.LogOrdered) : t.LogOrdered := by
  unfold State.LogOrdered
  rwa [hr, hn]

theorem State.LogOrdered.handFault {s : State} (h : s.LogOrdered) (rep : FaultReport) : (s.handFault rep).LogOrdered := by
  obtain ⟨bounded, numbered⟩ := h
  by_cases room : s.faults.records.length < Config.logCapacity
  · have added := State.handFault_added s rep room
    unfold State.LogOrdered
    rw [added, List.length_append, List.length_singleton]
    refine ⟨room, fun k r hk => ?_⟩
    rcases Nat.lt_or_ge k s.faults.records.length with before | after
    · rw [List.getElem?_append_left before] at hk
      have later : s.faults.records.length + 1 - k = s.faults.records.length - k + 1 := by omega
      rw [numbered k r hk, later, BitVec.ofNat_add]
      exact (add_sub_add_right_eq_sub _ _ _).symm
    · rw [List.getElem?_append_right after, List.getElem?_singleton] at hk
      split at hk
      next last =>
        cases hk
        have one : s.faults.records.length + 1 - k = 1 := by omega
        rw [one]
        exact (add_sub_cancel_right _ _).symm
      · cases hk
  · have dropped := State.handFault_dropped s rep room
    exact logOrdered_congr (by rw [dropped]) (by rw [dropped]) ⟨bounded, numbered⟩

/-- The records behind the head keep their numbers, and each its distance from the next one. -/
theorem State.LogOrdered.removeHead {s : State} (h : s.LogOrdered) : s.removeHead.LogOrdered := by
  cases hr : s.faults.records with
  | nil =>
    rw [State.removeHead, hr]
    exact h
  | cons r rest =>
    obtain ⟨bounded, numbered⟩ := h
    rw [hr, List.length_cons] at bounded numbered
    rw [removeHead_eq hr]
    refine ⟨Nat.le_of_succ_le bounded, fun k x hk => ?_⟩
    have distance : rest.length + 1 - (k + 1) = rest.length - k := Nat.add_sub_add_right ..
    rw [numbered (k + 1) x hk, distance]

theorem LogStep.logOrdered {s t : State} (k : LogStep s t) (h : s.LogOrdered) : t.LogOrdered := by
  cases k with
  | kept hf => exact logOrdered_congr (by rw [hf]) (by rw [hf]) h
  | handed rep => exact h.handFault rep
  | headRemoved => exact h.removeHead
  | markCleared b =>
    rw [clearUnlogged_eq]
    exact h
  | emptied hf =>
    unfold State.LogOrdered
    rw [hf]
    exact ⟨Nat.zero_le _, fun k r hk => nomatch hk⟩

/-- Settles O8, by the small steps of the Fault Log. -/
theorem stepKeepsTheLogOrdered : Obligations.StepKeepsTheLogOrdered := by
  intro s t h hs
  have steps := step_log hs
  clear hs
  induction steps with
  | refl => exact h
  | tail _ k ih => exact k.logOrdered ih

/-! ## Holds and the overflow count stay exact (R157 to R159) -/

/-- The holds and the overflow count follow the records and the marks. -/
structure LogExact (s : State) : Prop where
  holds : s.HoldsExact
  overflow : s.OverflowExact

/-- A saturating count that has counted is not zero. -/
theorem satInc_ne_zero (c : Byte) : satInc c ≠ 0 := by
  rw [satInc_eq]
  split
  · decide
  next below =>
    intro zero
    exact below (eq_neg_of_add_eq_zero_left zero)

namespace LogExact

variable {s t : State}

theorem congr (h : LogExact s) (hf : t.faults = s.faults) : LogExact t := by
  obtain ⟨holds, overflow⟩ := h
  refine ⟨fun b => ?_, ?_⟩
  · rw [State.recordNames, hf]
    exact holds b
  · rw [State.OverflowExact, hf]
    exact overflow

/-- The bank of a fault is named by the record that joins the log, or carries the mark; its hold is set in either case. -/
theorem handFault (h : LogExact s) (rep : FaultReport) : LogExact (s.handFault rep) := by
  obtain ⟨holds, overflow⟩ := h
  have hold : ∀ b : BankNo, (s.handFault rep).faults.hold[b] =
      (b == rep.bank || (s.recordNames b || s.faults.unlogged[b])) := by
    intro b
    rw [State.handFault_hold, updAt_true, holds b]
  by_cases room : s.faults.records.length < Config.logCapacity
  · have added := State.handFault_added s rep room
    refine ⟨fun b => ?_, by rw [State.OverflowExact, added]; exact overflow⟩
    have named : (s.handFault rep).recordNames b = (s.recordNames b || b == rep.bank) := by
      rw [State.recordNames, added, List.any_append, List.any_cons, List.any_nil, Bool.or_false, BEq.comm (a := b)]
      rfl
    rw [hold, named, added, ← Bool.or_assoc, Bool.or_comm (b == rep.bank)]
  · have dropped := State.handFault_dropped s rep room
    have marks : ∀ b : BankNo, (s.handFault rep).faults.unlogged[b] = (b == rep.bank || s.faults.unlogged[b]) := by
      intro b
      rw [dropped]
      exact updAt_true _ _ b
    refine ⟨fun b => ?_, ?_⟩
    · have named : (s.handFault rep).recordNames b = s.recordNames b := by rw [State.recordNames, dropped]; rfl
      rw [hold, named, marks, Bool.or_left_comm]
    · refine ⟨fun _ => ⟨rep.bank, by rw [marks, beq_self_eq_true, Bool.true_or]⟩, fun _ => ?_⟩
      rw [dropped]
      exact satInc_ne_zero _

/-- The hold of the bank that the head record named is judged again (R159). -/
theorem removeHead (h : LogExact s) : LogExact s.removeHead := by
  cases hr : s.faults.records with
  | nil =>
    rw [State.removeHead, hr]
    exact h
  | cons r rest =>
    obtain ⟨holds, overflow⟩ := h
    have removed := removeHead_eq hr
    refine ⟨fun b => ?_, by rw [State.OverflowExact, removed]; exact overflow⟩
    have named : s.recordNames b = (r.report.bank == b || rest.any fun x => x.report.bank == b) := by
      rw [State.recordNames, hr, List.any_cons]
    have left : s.removeHead.recordNames b = rest.any fun x => x.report.bank == b := by rw [State.recordNames, removed]
    have marks : s.removeHead.faults.unlogged = s.faults.unlogged := by rw [removed]
    rw [removeHead_hold hr, left, marks, holds b, named]
    split
    next e =>
      rw [e, beq_self_eq_true, Bool.true_or, Bool.true_or, Bool.true_and]
    next e => rw [beq_eq_false_iff_ne.mpr (Ne.symm e), Bool.false_or]

/-- The mark goes, the count with the last mark, and the hold where no record names the bank (R167). -/
theorem clearUnlogged (h : LogExact s) (b : BankNo) : LogExact (s.clearUnlogged b) := by
  obtain ⟨holds, overflow⟩ := h
  refine ⟨fun c => ?_, ?_⟩
  · have named : (s.clearUnlogged b).recordNames c = s.recordNames c := by rw [State.recordNames, clearUnlogged_eq]; rfl
    rw [clearUnlogged_hold, clearUnlogged_unlogged, named, holds c]
    by_cases e : c = b
    · rw [if_pos e, e, bne_self_eq_false, Bool.false_and, Bool.or_false, Bool.and_comm]
      cases s.faults.unlogged[b] <;> cases s.recordNames b <;> rfl
    · rw [if_neg e, bne_iff_ne.mpr e, Bool.true_and]
  · have marks : ∀ c : BankNo, (s.clearUnlogged b).faults.unlogged[c] = true ↔ c ≠ b ∧ s.faults.unlogged[c] = true := by
      intro c
      rw [clearUnlogged_unlogged, Bool.and_eq_true, bne_iff_ne]
    rw [State.OverflowExact, clearUnlogged_overflow]
    simp only [marks]
    split
    next others =>
      have ⟨c, _, marked⟩ := others
      exact ⟨fun _ => others, fun _ => overflow.mpr ⟨c, marked⟩⟩
    next none => exact ⟨fun x => absurd rfl x, fun x => absurd x none⟩

/-- The empty log has neither records nor marks, and no hold is set (R171). -/
theorem emptied (hf : t.faults = FaultLog.reset) : LogExact t := by
  have reset : LogExact State.reset :=
    ⟨fun b => by rw [State.reset_hold, State.recordNames, State.reset_records, State.reset_unlogged]; rfl,
      fun x => absurd rfl x, fun ⟨b, hb⟩ => by rw [State.reset_unlogged] at hb; cases hb⟩
  exact reset.congr hf

theorem step (h : LogExact s) (k : LogStep s t) : LogExact t := by
  cases k with
  | kept hf => exact h.congr hf
  | handed rep => exact h.handFault rep
  | headRemoved => exact h.removeHead
  | markCleared b => exact h.clearUnlogged b
  | emptied hf => exact emptied hf

end LogExact

/-- Settles O9, by the small steps of the Fault Log. -/
theorem stepKeepsHoldsAndOverflowExact : Obligations.StepKeepsHoldsAndOverflowExact := by
  rintro s t ⟨holds, overflow⟩ hs
  have exact_log : LogExact t := by
    have steps := step_log hs
    clear hs
    induction steps with
    | refl => exact ⟨holds, overflow⟩
    | tail _ k ih => exact ih.step k
  exact ⟨exact_log.holds, exact_log.overflow⟩

end Sys2Proof.Machine

/-! No entry is READY for a frozen bank (law L12). A hold that comes to be set and FLTPASS that comes to be negated are part of an
event, whose READY entries for the banks that they freeze are evaluated again before anything else (R49, R160); an evaluation
gives no entry of a frozen bank READY. -/

namespace Sys2Proof.Machine

/-! ## What freezes a bank, and what the decision gives a frozen one -/

/-- A bank's freeze depends on its hold and FLTPASS (R160). -/
theorem frozen_congr {s t : State} (hf : t.faults = s.faults) (hp : t.pins.fltpass = s.pins.fltpass) :
    t.frozen = s.frozen := by
  funext b
  rw [State.frozen, hf, hp]
  rfl

/-- What follows an event freezes no bank. -/
theorem EventEnd.frozen {s t : State} (h : EventEnd s t) : t.frozen = s.frozen := frozen_congr h.faults (by rw [h.pins])

/-- The decision forwards no request to a frozen bank (R42). -/
theorem judge_ready {s : State} {r : Request} (h : (s.judge r).entryStatus = some .ready) : s.frozen r.bank = false := by
  cases frozen : s.frozen r.bank with
  | false => rfl
  | true =>
    unfold State.judge at h
    simp only [frozen, if_true] at h
    split at h
    · cases h
    · split at h
      · cases h
      · split at h <;> cases h

/-! ## The re-evaluation of an entry -/

/-- An entry that is evaluated again stays with the status of its outcome. -/
theorem reevaluate_kept {s : State} {k : Nat} {e : Entry} {st : EntryStatus}
    (h : (s.judge e.request).entryStatus = some st) : (s.reevaluate k e).queue = (s.setStatus k st).queue := by
  simp only [State.reevaluate, h]
  exact (State.perform_enters h).1

/-- An entry that is evaluated again and answered leaves. -/
theorem reevaluate_answered {s : State} {k : Nat} {e : Entry} (h : (s.judge e.request).entryStatus = none) :
    (s.reevaluate k e).queue = s.queue.eraseIdx k := by
  simp only [State.reevaluate, h]
  exact (State.perform_answers h).1

theorem reevaluate_frozen (s : State) (k : Nat) (e : Entry) : (s.reevaluate k e).frozen = s.frozen :=
  (eventEnd_steps (State.reevaluate_steps s k e)).frozen

/-- What is READY after a kept entry's evaluation is another entry that was, or the entry itself for a bank that is not frozen. -/
theorem reevaluate_ready {s : State} {k : Nat} {e : Entry} {st : EntryStatus} (he : s.queue[k]? = some e)
    (hj : (s.judge e.request).entryStatus = some st) {j : Nat} {x : Entry} (hx : (s.reevaluate k e).queue[j]? = some x)
    (ready : x.status = .ready) : s.frozen x.request.bank = false ∨ (k ≠ j ∧ s.queue[j]? = some x) := by
  rw [reevaluate_kept hj, State.setStatus_queue, List.getElem?_modify] at hx
  by_cases here : k = j
  · subst here
    rw [he] at hx
    obtain rfl : { e with status := st } = x := by simpa using hx
    cases ready
    exact .inl (judge_ready hj)
  · exact .inr ⟨here, by simpa [here] using hx⟩

namespace State.FrozenHaveNoReady

theorem reevaluate {s : State} (h : s.FrozenHaveNoReady) {k : Nat} {e : Entry} (he : s.queue[k]? = some e) :
    (s.reevaluate k e).FrozenHaveNoReady := by
  intro x hx ready
  rw [reevaluate_frozen]
  cases hj : (s.judge e.request).entryStatus with
  | none =>
    rw [reevaluate_answered hj] at hx
    exact h x (List.mem_of_mem_eraseIdx hx) ready
  | some st =>
    obtain ⟨j, hx⟩ := List.mem_iff_getElem?.mp hx
    rcases reevaluate_ready he hj hx ready with thawed | ⟨-, before⟩
    · exact thawed
    · exact h x (List.mem_of_getElem? before) ready

/-- A sweep of the queue makes no entry READY for a frozen bank. -/
theorem sweep {s : State} (h : s.FrozenHaveNoReady) (rule : State → Nat → Entry → Visit) (fuel k : Nat) :
    (Machine.sweep rule fuel k s).FrozenHaveNoReady :=
  sweep_relates (R := fun s t => s.FrozenHaveNoReady → t.FrozenHaveNoReady) (fun _ => id) (fun h h' => h' ∘ h)
    (fun _ _ _ _ _ hs x hx => hs x (List.mem_of_mem_eraseIdx hx)) (fun _ _ _ he _ hs => hs.reevaluate he) fuel k s h

theorem releaseWalks {s : State} (h : s.FrozenHaveNoReady) (n : Nat) : (State.releaseWalks n s).FrozenHaveNoReady := by
  induction n generalizing s with
  | zero => exact h
  | succ n ih =>
    have walked : s.releaseWalk.FrozenHaveNoReady := h.sweep _ _ _
    unfold State.releaseWalks
    dsimp only
    split
    · exact ih walked
    · exact walked

end State.FrozenHaveNoReady

/-! ## The re-evaluation at a freeze (R49) -/

/-- The entries that are READY for a bank which an event has frozen, `pre` being the state before the event, stand at place `n` or
behind. -/
def FrozenFrom (pre s : State) (n : Nat) : Prop :=
  ∀ j e, s.queue[j]? = some e → e.status = .ready → s.frozen e.request.bank = true →
    n ≤ j ∧ pre.frozen e.request.bank = false

theorem FrozenFrom.noReady {pre s : State} {n : Nat} (h : FrozenFrom pre s n) (hn : s.queue.length ≤ n) :
    s.FrozenHaveNoReady := by
  intro e he ready
  obtain ⟨j, hj⟩ := List.mem_iff_getElem?.mp he
  obtain ⟨inside, -⟩ := List.getElem?_eq_some_iff.mp hj
  by_contra frozen
  obtain ⟨behind, -⟩ := h j e hj ready (by simpa using frozen)
  omega

/-- The sweep evaluates each READY entry of a bank that the event has frozen, and reaches the whole queue. -/
theorem freezeSweep_noReady {pre u : State} (fuel k : Nat) (s : State) (same : s.frozen = u.frozen)
    (h : FrozenFrom pre s k) (hf : s.queue.length ≤ k + fuel) :
    (sweep (State.freezeRule pre u) fuel k s).FrozenHaveNoReady := by
  induction fuel generalizing k s with
  | zero => exact h.noReady hf
  | succ fuel ih =>
    cases he : s.queue[k]? with
    | none =>
      rw [sweep_end he]
      exact h.noReady (List.getElem?_eq_none_iff.mp he)
    | some e =>
      obtain ⟨inside, -⟩ := List.getElem?_eq_some_iff.mp he
      cases hv : State.freezeRule pre u s k e with
      | fail => exact absurd hv (freezeRule_ne_fail pre u s k e)
      | pass =>
        rw [sweep_passed he hv]
        refine ih (k + 1) s same (fun j x hx ready frozen => ?_) (by omega)
        obtain ⟨behind, thawed⟩ := h j x hx ready frozen
        refine ⟨Nat.lt_of_le_of_ne behind fun here => ?_, thawed⟩
        subst here
        cases he.symm.trans hx
        have visited := (freezeRule_evaluate_iff pre u s k e).mpr ⟨ready, thawed, same ▸ frozen⟩
        cases hv.symm.trans visited
      | evaluate =>
        have same' := (reevaluate_frozen s k e).trans same
        cases hj : (s.judge e.request).entryStatus with
        | none =>
          have queue := reevaluate_answered (k := k) hj
          have swept : sweep (State.freezeRule pre u) (fuel + 1) k s =
              sweep (State.freezeRule pre u) fuel k (s.reevaluate k e) := by simp only [sweep, he, hv, hj]
          rw [swept]
          refine ih k _ same' (fun j x hx ready frozen => ?_) ?_
          · rw [reevaluate_frozen] at frozen
            rw [queue, List.getElem?_eraseIdx] at hx
            split at hx
            · exact h j x hx ready frozen
            · obtain ⟨-, thawed⟩ := h (j + 1) x hx ready frozen
              exact ⟨by omega, thawed⟩
          · rw [queue, List.length_eraseIdx_of_lt inside]
            omega
        | some st =>
          have swept : sweep (State.freezeRule pre u) (fuel + 1) k s =
              sweep (State.freezeRule pre u) fuel (k + 1) (s.reevaluate k e) := by simp only [sweep, he, hv, hj]
          rw [swept]
          refine ih (k + 1) _ same' (fun j x hx ready frozen => ?_) ?_
          · rw [reevaluate_frozen] at frozen
            rcases reevaluate_ready he hj hx ready with thawed | ⟨elsewhere, before⟩
            · cases thawed.symm.trans frozen
            · obtain ⟨behind, thawed⟩ := h j x before ready frozen
              exact ⟨by omega, thawed⟩
          · rw [reevaluate_kept hj, State.setStatus_queue, List.length_modify]
            omega

/-! ## The end of an event -/

/-- What follows the walks makes no entry READY: the grant makes one ISSUED. -/
theorem TailEnd.noReady {w t : State} (ht : TailEnd w t) (hf : t.frozen = w.frozen) (hw : w.FrozenHaveNoReady) :
    t.FrozenHaveNoReady := by
  intro e he ready
  obtain ⟨j, hj⟩ := List.mem_iff_getElem?.mp he
  obtain ⟨inside, -⟩ := List.getElem?_eq_some_iff.mp hj
  have length : t.queue.length = w.queue.length := by simpa using congrArg List.length ht.quiet.requests
  have before := List.getElem?_eq_getElem (length ▸ inside : j < w.queue.length)
  rw [hf]
  rcases ht.statuses j _ before with same | ⟨-, issued⟩
  · cases hj.symm.trans same
    exact hw _ (List.getElem_mem _) ready
  · cases hj.symm.trans issued
    cases ready

/-- No entry that an event's own effect leaves READY is for a bank that was frozen before the event. -/
def ReadyWereThawed (pre u : State) : Prop := ∀ e ∈ u.queue, e.status = .ready → pre.frozen e.request.bank = false

section
variable {pre u : State} (h : ReadyWereThawed pre u) (released : Bool)
include h

theorem runQueue_noReady : (State.runQueue pre released u).FrozenHaveNoReady := by
  have reevaluated : (State.freezeReevaluation pre u).FrozenHaveNoReady :=
    freezeSweep_noReady _ 0 u rfl (fun j e he ready _ => ⟨Nat.zero_le j, h e (List.mem_of_getElem? he) ready⟩) (by omega)
  unfold State.runQueue
  dsimp only
  split
  · exact reevaluated.releaseWalks 9
  · exact reevaluated

theorem finish_noReady : (u.finish pre released).FrozenHaveNoReady := by
  have ended := (finish_eventEnd u pre released).frozen
  have walked := (eventEnd_steps (State.runQueue_steps pre released u)).frozen
  exact TailEnd.noReady (finish_afterQueue rfl) (ended.trans walked.symm) (runQueue_noReady h released)

theorem finishCompletion_noReady : (u.finishCompletion pre released).FrozenHaveNoReady := by
  have ended := (finishCompletion_eventEnd u pre released).frozen
  have walked := (eventEnd_steps (State.runQueue_steps pre released u)).frozen
  unfold State.finishCompletion at ended ⊢
  split
  next follows =>
    rw [if_pos follows] at ended
    have tail : PowerEnd (State.runQueue pre released u) ((u.untilGrant pre released).afterGrant pre) :=
      (PowerEnd.takeAgeExpiries pre _).trans ((PowerEnd.pressureChoice _).trans (.afterGrant _ pre))
    exact tail.tail.noReady (ended.trans walked.symm) (runQueue_noReady h released)
  · exact finish_noReady h released

end

/-! ## A command's own effect -/

namespace ReadyWereThawed

variable {s t u : State}

theorem of_queue (h : ReadyWereThawed s t) (hq : u.queue = t.queue) : ReadyWereThawed s u := by
  unfold ReadyWereThawed
  rwa [hq]

/-- Entries that become FAILED are not READY. -/
theorem failed (h : ReadyWereThawed s t) {f : Entry → Entry} (hq : u.queue = t.queue.map f)
    (hf : ∀ e, f e = e ∨ (f e).status = .failed) : ReadyWereThawed s u := by
  intro x hx ready
  rw [hq] at hx
  obtain ⟨e, he, rfl⟩ := List.mem_map.mp hx
  rcases hf e with same | failed
  · rw [same] at ready ⊢
    exact h e he ready
  · cases failed.symm.trans ready

theorem makeStuck (h : ReadyWereThawed s t) (b : BankNo) : ReadyWereThawed s (t.makeStuck b) := by
  rcases makeStuck_cases t b with same | ⟨-, -, hq⟩
  · rwa [same]
  · refine h.failed hq fun e => ?_
    split
    · exact .inr rfl
    · exact .inl rfl

theorem failBank (h : ReadyWereThawed s t) (b : BankNo) (kind : FaultKind) : ReadyWereThawed s (t.failBank b kind) :=
  (h.makeStuck b).of_queue (failBank_queue_banks t b kind).1

/-- A request that enters READY is for a bank that is not frozen (R42, R44, R46). -/
theorem takeRequest (h : ReadyWereThawed s s) (r : Request) : ReadyWereThawed s (s.takeRequest r) := by
  have entered : ∀ {t : State} {st : EntryStatus}, t.queue = s.queue ++ [⟨r, st⟩] →
      (st = .ready → s.frozen r.bank = false) → ReadyWereThawed s t := by
    intro t st hq hst e he ready
    rw [hq] at he
    rcases List.mem_append.mp he with before | last
    · exact h e before ready
    · obtain rfl := List.mem_singleton.mp last
      exact hst ready
  unfold State.takeRequest
  split
  · cases hv : (s.judge r).entryStatus with
    | none =>
      rw [State.firstEvaluation_answered s r hv]
      exact h.of_queue (State.perform_answers hv).1
    | some st =>
      rw [State.firstEvaluation_entered s r st hv]
      exact entered (State.perform_enters (s := s.appendEntry r st) hv).1 fun ready => judge_ready (ready ▸ hv)
  · exact entered rfl nofun

theorem route (h : ReadyWereThawed s t) (op : InFlight) (report : Report) (data : Vector Word 8) :
    ReadyWereThawed s (t.route op report data) := by
  unfold State.route
  split
  · rcases routeWord_cases t report data with ⟨hq, -⟩ | ⟨k, e, -, -, hq⟩
    · exact h.of_queue hq
    · intro x hx
      rw [hq] at hx
      exact h x (List.mem_of_mem_eraseIdx hx)
  · exact h.of_queue (routeLine_queue t _ report)
  · exact h.of_queue (routeZero_queue t report)

theorem timeOut (h : ReadyWereThawed s s) (op : InFlight) : ReadyWereThawed s (s.timeOut op) := by
  have told : ReadyWereThawed s ((s.endOperation op.bank).tellTimeout op) := by
    unfold State.tellTimeout
    split
    · refine h.failed (t := s) rfl fun e => ?_
      split
      · exact .inr rfl
      · exact .inl rfl
    · split <;> exact h
    · exact h
  exact (told.makeStuck op.bank).of_queue (State.handFault_queue _ _)

end ReadyWereThawed

/-- A command's own effect makes no entry READY but at the taking of a request. -/
theorem ownEffect_readyWereThawed {s u : State} (k : OwnEffect s u) (h : s.FrozenHaveNoReady) : ReadyWereThawed s u := by
  have before : ReadyWereThawed s s := h
  have kept : ∀ {t : State}, QueueKept s t → ReadyWereThawed s t := fun q => before.of_queue q.queue
  cases k with
  | take r hp hm => exact before.takeRequest r
  | complete op report data hp => exact .route (t := s.endOperation op.bank) before op report data
  | timeOut op hp => exact before.timeOut op
  | settleTimeout b hb => exact before.failBank b _
  | settleWaking b level settled o hf hb =>
    exact kept (.trans (t := (s.drive b level settled).sampleLines b) {} (.settleWaking ..))
  | settleDescending b level settled o hf hb =>
    exact kept (.trans (t := (s.drive b level settled).sampleLines b) {} (.settleDescending ..))
  | unsolicited b level settled hf => exact .failBank (t := (s.drive b level settled).sampleLines b) before b _
  | descend b o => exact kept (.descend s b o)
  | cause b f => exact kept (.addCause s b f)
  | flushEvery => exact kept (.flushEvery s)
  | warn => exact kept (.trans (t := s.driveSupwarn true) {} (.enterWarn _))
  | leaveWarn => exact kept (.trans (t := s.driveSupwarn false) {} (.leaveWarn _))
  | warmReset hr =>
    intro e he
    rw [show (s.driveResetn true).warmReset.queue = [] from rfl] at he
    cases he
  | removeHead => exact kept (.trans (t := s.endFrame) {} (.removeHead _))
  | clearUnlogged b => exact kept (.clearUnlogged s b)
  | capture r => exact kept (QueueEvent.captureLow s r)
  | refit v hv hm =>
    obtain ⟨-, -, idle⟩ := (mayRefit_iff s).1 hm
    exact kept (.trans (t := s.setTickDiv v) {} (refit_kept v idle))
  | wake b o hf hb => exact kept (.wake s b o)
  | discard b hf hb => exact kept (.discardBank s b)
  | clearWake b o hf hb hl => exact kept (.trans (t := s.setClearPending b true) {} (.wake _ b o))
  | millisecond => exact kept (.milliStep s)
  | _ => exact before

/-! ## Every command, as the freeze of banks sees it -/

/-- What a command does: it leaves what freezes banks and the queue, or it is an event, with what follows it. -/
inductive FreezeEvent (s : State) : State → Prop where
  | stands {t : State} (h : FreezeStands s t) : FreezeEvent s t
  | ended {u : State} (h : OwnEffect s u) (released : Bool) : FreezeEvent s (u.finish s released)
  | completed {u : State} (h : OwnEffect s u) (released : Bool) : FreezeEvent s (u.finishCompletion s released)
  | replied {t : State} (h : FreezeEvent s t) (n : Nat) (status : MgmtStatus) (results : List Byte) :
      FreezeEvent s (t.reply n status results)
  /-- Power-on reset empties the queue. -/
  | emptied {t : State} (h : t.queue = []) : FreezeEvent s t

namespace FreezeEvent

variable {s u : State}

theorem unchanged : FreezeEvent s s := .stands {}

theorem reply (s : State) (n : Nat) (status : MgmtStatus) (results : List Byte) :
    FreezeEvent s (s.reply n status results) := .stands {}

theorem accept (h : OwnEffect s u) : FreezeEvent s (s.accept u) := .replied (.ended h _) ..

/-! ### The management port -/

theorem writeInRange {c : Bool} {effect : State → State} (h : c = true → FreezeEvent s (effect s)) :
    FreezeEvent s (s.writeInRange c effect) := by
  unfold State.writeInRange
  split
  next hc => exact (h hc).replied ..
  · exact reply s ..

theorem writeConfig (s : State) (v : BitVec 16) : FreezeEvent s (s.writeConfig v) := by
  unfold State.writeConfig
  split
  next hv =>
    split
    · exact .stands {}
    · split
      next hm => exact .replied (.ended (.refit v hv hm) _) ..
      · exact reply s ..
  · exact reply s ..

theorem writeHwm (s : State) (v : BitVec 16) : FreezeEvent s (s.writeHwm v) := writeInRange fun h => .ended (.hwm v h) _

theorem writeAgeLimit (s : State) (v : BitVec 16) : FreezeEvent s (s.writeAgeLimit v) :=
  writeInRange fun _ => .ended (.ageLimit v) _

theorem regWrite (number : Byte) (v : BitVec 16) (s : State) : Yields (FreezeEvent s) (execRegWrite number v s) := by
  refine .onFrame unchanged ?_
  split
  · exact .next (reply s ..)
  iterate 2 exact .next (writeInRange fun _ => .stands {})
  iterate 9 exact .next (reply s ..)
  · exact .next (writeConfig s v)
  · exact .next (writeHwm s v)
  · exact .next (writeAgeLimit s v)
  iterate 5 exact .next (writeInRange fun _ => .stands {})

theorem counterHighRead (number : Byte) (s : State) : Yields (FreezeEvent s) (execCounterHighRead number s) := by
  refine .onFrame unchanged ?_
  split
  · exact .next (reply s ..)
  next r _ => cases r <;> exact .next (.stands {})

theorem regionWrite (entry flags : Byte) (base limit : BitVec 24) (initiators : Byte) (s : State) :
    Yields (FreezeEvent s) (execRegionWrite entry flags base limit initiators s) := by
  refine .onFrame unchanged ?_
  split
  next g _ =>
    refine .next ?_
    unfold State.writeRegion
    split
    · exact .replied (.ended (.region g _) _) ..
    · exact reply s ..
  · exact .next (reply s ..)

theorem faultPop (s : State) : Yields (FreezeEvent s) (execFaultPop s) := by
  refine .onFrame unchanged ?_
  split
  · exact .next (reply s ..)
  · exact .next (.stands {})

theorem faultPopRemoval (shifted : Nat) (s : State) : Yields (FreezeEvent s) (execFaultPopRemoval shifted s) := by
  unfold execFaultPopRemoval
  split
  · exact .next (.stands {})
  · exact .cond (fun _ => .next (.ended .removeHead _)) fun _ => .next (.stands {})

theorem clearUnlogged (bank : Byte) (s : State) : Yields (FreezeEvent s) (execClearUnlogged bank s) := by
  refine .onFrame unchanged ?_
  split
  · exact .next (reply s ..)
  next b _ => exact .next (.replied (.ended (.clearUnlogged b) _) ..)

theorem flush (bank : Byte) (s : State) : Yields (FreezeEvent s) (execFlush bank s) := by
  refine .onFrame unchanged ?_
  split
  · exact .next (reply s ..)
  next b _ =>
    refine .next ?_
    unfold State.orderFlush
    split
    · exact reply s ..
    · split
      · exact reply s ..
      · exact .replied (.ended (.cause b _) _) ..

/-! ### Orders -/

theorem order (s : State) (bank : Byte) {action : BankNo → State}
    (h : ∀ b, s.fitted b = true → FreezeEvent s (action b)) :
    Yields (FreezeEvent s) (s.onFrame (.next (s.order bank action))) := by
  refine .onFrame unchanged (.next ?_)
  unfold State.order
  split
  · exact reply s ..
  next b _ =>
    split
    next hf => exact h b hf
    · exact reply s ..

theorem orderWake (s : State) (b : BankNo) (hf : s.fitted b = true) : FreezeEvent s (s.orderWake b) := by
  unfold State.orderWake
  split
  next h => exact accept (.wake b .off hf (.inl h))
  next h => exact accept (.wake b .retain hf (.inl h))
  · exact .stands {}
  · split
    · exact accept (.holdAwake b)
    · exact reply s ..
  all_goals exact reply s ..

theorem orderRetain (s : State) (b : BankNo) : FreezeEvent s (s.orderRetain b) := by
  unfold State.orderRetain
  iterate 3
    split
    · exact reply s ..
  exact accept (.descend b .retain)

theorem orderOff (s : State) (b : BankNo) : FreezeEvent s (s.orderOff b) := by
  unfold State.orderOff
  split
  · split
    · exact reply s ..
    · exact accept (.descend b .off)
  · exact reply s ..

theorem orderRetry (s : State) (b : BankNo) (hf : s.fitted b = true) : FreezeEvent s (s.orderRetry b) := by
  unfold State.orderRetry
  split
  next o h => exact accept (.wake b o hf (.inr h))
  all_goals exact reply s ..

theorem orderDiscard (s : State) (b : BankNo) (hf : s.fitted b = true) : FreezeEvent s (s.orderDiscard b) := by
  unfold State.orderDiscard
  split
  next h => exact accept (.discard b hf h)
  · exact reply s ..

theorem orderClear (s : State) (b : BankNo) (hf : s.fitted b = true) : FreezeEvent s (s.orderClear b) := by
  unfold State.orderClear
  split
  · exact reply s ..
  next hc =>
    have hl : s.lineCount b = 0 := by
      by_contra h
      exact hc (.inl h)
    split
    next h => exact accept (.clear b hf h hl)
    next h => exact accept (.clearWake b .off hf h hl)
    next h => exact accept (.clearWake b .retain hf h hl)
    all_goals exact reply s ..

theorem orderUnlost (s : State) (b : BankNo) : FreezeEvent s (s.orderUnlost b) := by
  unfold State.orderUnlost
  split
  · exact reply s ..
  · exact .stands {}

/-! ### The ports and the banks -/

theorem requestTaken (r : Request) (s : State) : Yields (FreezeEvent s) (execRequestTaken r s) := by
  unfold execRequestTaken
  split
  next hp => exact .cond (fun hm => .next (.ended (.take r hp hm) _)) fun _ => .next unchanged
  · exact .fault _

theorem completion (number : BitVec 8) (report : Report) (data : Vector Word 8) (s : State) :
    Yields (FreezeEvent s) (execCompletion number report data s) := by
  unfold execCompletion
  split
  next op h => exact .cond (fun _ => .next (.completed (.complete op report data h) _)) fun _ => .next (.stands {})
  · exact .next (.stands {})

theorem accessTimeout (s : State) : Yields (FreezeEvent s) (execAccessTimeout s) := by
  unfold execAccessTimeout
  split
  next op h => exact .next (.ended (.timeOut op h) _)
  · exact .next unchanged

theorem lineChange (s : State) (b : BankNo) (level : StatusLevel) (settled : Bool) (hf : s.fitted b = true) :
    FreezeEvent s ((s.drive b level settled).lineChange s b) := by
  have sampled : FreezeEvent s ((s.drive b level settled).sampleLines b) := .stands {}
  have changed : FreezeEvent s ((s.drive b level settled).settledChange s b) := by
    unfold State.settledChange
    split
    · exact .ended (.unsolicited b level settled hf) _
    · exact sampled
  unfold State.lineChange
  dsimp only
  split
  next o h =>
    split
    · exact .ended (.settleWaking b level settled o hf h) _
    · exact sampled
  next o h =>
    split
    · exact .ended (.settleDescending b level settled o hf h) _
    · exact sampled
  · exact sampled
  all_goals exact changed

theorem powerOnReset (s : State) : Yields (FreezeEvent s) (exec .powerOnReset s) := by
  obtain ⟨t, ht, -, -, -, queue, -⟩ := powerOnResetGivesThePowerOnValues.2 s
  rw [ht]
  exact .next (.emptied queue)

end FreezeEvent

open FreezeEvent (unchanged reply writeInRange) in
/-- What each command does, as the freeze of banks sees it. -/
theorem exec_freezeEvent {c : Instr} {s t : State} (h : exec c s = .next t) : FreezeEvent s t := by
  suffices hy : Yields (FreezeEvent s) (exec c s) from hy t h
  have same : Yields (FreezeEvent s) (.next s) := .next unchanged
  have replies : ∀ (n : Nat) (status : MgmtStatus) (results : List Byte),
      Yields (FreezeEvent s) (.next (s.reply n status results)) := fun n status results => .next (reply s n status results)
  have framed : ∀ {u : State}, FreezeEvent s u → Yields (FreezeEvent s) (s.onFrame (.next u)) := fun hu =>
    .onFrame unchanged (.next hu)
  have ended : ∀ {u : State} {released : Bool}, OwnEffect s u → Yields (FreezeEvent s) (.next (u.finish s released)) :=
    fun k => .next (.ended k _)
  cases c with
  | requestTaken r => exact FreezeEvent.requestTaken r s
  | completion number report data => exact FreezeEvent.completion number report data s
  | accessTimeout => exact FreezeEvent.accessTimeout s
  | settleTimeout b => exact .cond (fun h => ended (.settleTimeout b (Bool.and_eq_true_iff.mp h).1)) fun _ => same
  | statusLineChange b level settled =>
    exact .cond (fun hf => .next (.lineChange s b level settled hf)) fun _ => .next (.stands {})
  | idleTimerExpiry b => exact .cond (fun _ => ended (.descend b .retain)) fun _ => same
  | offTimerExpiry b => exact .cond (fun _ => ended (.descend b .off)) fun _ => same
  | ageExpiry b => exact .cond (fun _ => ended (.cause b _)) fun _ => same
  | supwarnAssertion => exact .cond (fun _ => same) fun _ => ended .warn
  | supwarnNegation => exact .cond (fun _ => ended .leaveWarn) fun _ => same
  | fltpassAssertion => exact .cond (fun _ => same) fun _ => ended (.fltpass true)
  | fltpassNegation => exact .cond (fun _ => ended (.fltpass false)) fun _ => same
  | resetnAssertion => exact .cond (fun _ => same) fun h => ended (.warmReset (by simpa using h))
  | resetnNegation => exact .cond (fun h => ended (.resumed h)) fun _ => same
  | powerOnReset => exact FreezeEvent.powerOnReset s
  | invalidCommand frame =>
    exact .cond (fun _ => framed (reply s ..)) fun _ => .cond (fun _ => framed (.stands {})) fun _ => .fault _
  | status => exact framed (reply s ..)
  | counterHighRead number => exact FreezeEvent.counterHighRead number s
  | regWrite number v => exact FreezeEvent.regWrite number v s
  | configWrite v => exact framed (.writeConfig s v)
  | hwmWrite v => exact framed (.writeHwm s v)
  | ageLimitWrite v => exact framed (.writeAgeLimit s v)
  | irqStatusWrite v => exact framed (writeInRange fun _ => .stands {})
  | irqEnableWrite v => exact framed (writeInRange fun _ => .stands {})
  | resetRecordWrite v => exact framed (writeInRange fun _ => .stands {})
  | bankPolicyAWrite b v => exact framed (writeInRange fun _ => .stands {})
  | bankPolicyBWrite b v => exact framed (writeInRange fun _ => .stands {})
  | regionRead entry => exact .onFrame unchanged (by split <;> exact replies _ _ _)
  | regionWrite entry flags base limit initiators => exact FreezeEvent.regionWrite entry flags base limit initiators s
  | slotRead slot => exact .onFrame unchanged (by split <;> exact replies _ _ _)
  | wakeOrder bank => exact .order s bank (.orderWake s)
  | retainOrder bank => exact .order s bank fun b _ => .orderRetain s b
  | offOrder bank => exact .order s bank fun b _ => .orderOff s b
  | retryOrder bank => exact .order s bank (.orderRetry s)
  | discardOrder bank => exact .order s bank (.orderDiscard s)
  | clearOrder bank => exact .order s bank (.orderClear s)
  | unlostOrder bank => exact .order s bank fun b _ => .orderUnlost s b
  | flush bank => exact FreezeEvent.flush bank s
  | flushAll => exact framed (.replied (.ended .flushEvery _) ..)
  | faultPeek => exact .onFrame unchanged (by split <;> exact replies _ _ _)
  | faultPop => exact FreezeEvent.faultPop s
  | faultPopRemoval shifted => exact FreezeEvent.faultPopRemoval shifted s
  | clearUnlogged bank => exact FreezeEvent.clearUnlogged bank s
  | millisecondCounterStep => exact .next (.stands (.milliStep s))

/-! ## Every step -/

theorem FreezeStands.noReady {s t : State} (k : FreezeStands s t) (h : s.FrozenHaveNoReady) : t.FrozenHaveNoReady := by
  unfold State.FrozenHaveNoReady
  rwa [k.queue, frozen_congr k.faults k.fltpass]

theorem FreezeEvent.noReady {s t : State} (k : FreezeEvent s t) (h : s.FrozenHaveNoReady) : t.FrozenHaveNoReady := by
  induction k with
  | stands k => exact k.noReady h
  | ended k released => exact finish_noReady (ownEffect_readyWereThawed k h) released
  | completed k released => exact finishCompletion_noReady (ownEffect_readyWereThawed k h) released
  | replied _ _ _ _ ih => exact ih
  | emptied queue =>
    intro e he
    rw [queue] at he
    cases he

/-- Settles O17: the READY entries of the banks that an event freezes are evaluated again, and no evaluation gives a frozen bank's
entry READY. -/
theorem stepKeepsFrozenBanksUnready : Obligations.StepKeepsFrozenBanksUnready := by
  intro s t h hs
  rcases step_exec hs with ⟨c, rest, he⟩ | rfl
  · exact (exec_freezeEvent he).noReady (s := { s with pending := rest }) h
  · exact (FreezeStands.clockCycle s).noReady h

end Sys2Proof.Machine

/-! FLTPASS decides whether held banks are frozen (R160), and each change of it is followed by a release walk (R60). -/

namespace Sys2Proof.Machine

theorem driveFltpass_frozen (s : State) (v : Bool) (b : BankNo) :
    (s.driveFltpass v).frozen b = (s.faults.hold[b] && !v) := rfl

/-- A release event makes one walk after the re-evaluation at a freeze, where every bank agrees with its lines (R49, R60). -/
theorem runQueue_released {pre s : State} (h : ∀ b : BankNo, s.HandshakeOf b) :
    State.runQueue pre true s = (State.freezeReevaluation pre s).releaseWalk := by
  have agree : ∀ b : BankNo, (State.freezeReevaluation pre s).HandshakeOf b := (NoneEntersActive.sweep _ _ _ s h).1
  simp only [State.runQueue, Bool.true_or, if_true, releaseWalks_once agree]

/-- What a change of FLTPASS leaves: the line at its new level, the log as it was, and the queue as the re-evaluation at a freeze
and the walk left it. -/
theorem fltpass_changed (s : State) (v : Bool) :
    ((s.driveFltpass v).finish s true).pins = { s.pins with fltpass := v } ∧
      ((s.driveFltpass v).finish s true).faults = s.faults ∧
      (∀ b : BankNo, ((s.driveFltpass v).finish s true).frozen b = (s.faults.hold[b] && !v)) ∧
      ((∀ b : BankNo, s.HandshakeOf b) → ((s.driveFltpass v).finish s true).QueueIsThatOf
        (State.freezeReevaluation s (s.driveFltpass v)).releaseWalk) := by
  have ended := finish_eventEnd (s.driveFltpass v) s true
  refine ⟨ended.pins, ended.faults, fun b => ?_, fun agree => ?_⟩
  · rw [ended.frozen, driveFltpass_frozen]
  · exact (finish_afterQueue (runQueue_released (s := s.driveFltpass v) agree)).queueIsThatOf

/-- Settles O44, from what a change of FLTPASS leaves; the assertion freezes no bank, and before the negation none is frozen. -/
theorem fltpassFreezesHeldBanks : Obligations.FltpassFreezesHeldBanks := by
  intro s
  refine ⟨fun h => if_pos h, fun h => if_neg (by rw [h]; nofun), fun negated => ?_, fun asserted => ?_⟩
  · obtain ⟨pins, faults, frozen, queue⟩ := fltpass_changed s true
    refine ⟨_, if_neg (by rw [negated]; nofun), pins, faults, fun b => by rw [frozen, Bool.not_true, Bool.and_false], ?_⟩
    have thaws : ∀ b, State.becameFrozen s (s.driveFltpass true) b = false := fun b => by
      rw [State.becameFrozen, driveFltpass_frozen, Bool.not_true, Bool.and_false, Bool.and_false]
    rwa [State.freezeReevaluation_quiet thaws] at queue
  · obtain ⟨pins, faults, frozen, queue⟩ := fltpass_changed s false
    have thawed : ReadyWereThawed s (s.driveFltpass false) := fun e _ _ => by
      rw [State.frozen, asserted, Bool.not_true, Bool.and_false]
    exact ⟨_, if_pos asserted, pins, faults, fun b => by rw [frozen, Bool.not_false, Bool.and_true],
      finish_noReady thawed true, queue⟩

end Sys2Proof.Machine

/-! FAULT PEEK (R164), and the interrupt causes with IRQ STATUS and IRQ ENABLE (R168 to R170). -/

namespace Sys2Proof.Machine

/-! ## FAULT PEEK -/

/-- Four flags by their weights. -/
theorem flagsValue_four (a b c d : Bool) :
    flagsValue [a, b, c, d] = a.toNat + 2 * b.toNat + 4 * c.toNat + 8 * d.toNat := by
  simp only [flagsValue]
  omega

/-- The 16 result bytes of a record; an absent line or mask reads as zero (Table 10-6). -/
theorem faultRecord_bytes (r : FaultRecord) : r.bytes =
    bytesOf 2 r.seq.toNat ++ [BitVec.ofNat 8 r.report.kind.code, BitVec.ofNat 8 r.report.bank.val] ++
    bytesOf 2 r.timestamp.toNat ++
    [BitVec.ofNat 8 (r.report.line.isSome.toNat + 2 * r.report.mask.isSome.toNat +
      4 * r.report.contributors.isSome.toNat + 8 * r.report.count.isSome.toNat)] ++
    bytesOf 3 ((r.report.line.map BitVec.toNat).getD 0) ++
    bytesOf 4 ((r.report.mask.map fun m => flagsValue m.toList).getD 0) ++
    [r.report.contributors.getD 0, BitVec.ofNat 8 (r.report.count.getD 0)] := by
  obtain ⟨seq, timestamp, kind, bank, line, mask, contributors, count⟩ := r
  rw [← flagsValue_four]
  cases line <;> cases mask <;> simp [FaultRecord.bytes, bytesOf_one]

/-- Settles O40, by whether the log holds a record. -/
theorem faultPeekReportsTheHead : Obligations.FaultPeekReportsTheHead := by
  intro s hw
  refine ⟨fun empty => ?_, fun r rest hr => ⟨_, ?_, rfl, faultRecord_bytes r, State.handFault_mgmt _, ?_⟩⟩
  · simp only [exec, execFaultPeek, State.onFrame_taken hw, empty]
    rfl
  · simp only [exec, execFaultPeek, State.onFrame_taken hw, hr]
    rfl
  · obtain ⟨-, popped, -⟩ := faultPopRemovesAtTheFramesEnd { s with mgmt := some ⟨0, .done, r.bytes, false⟩ } 0
    exact popped r rest hw hr

/-! ## The interrupt causes -/

section
variable (s : State)

/-- The causes as IRQ STATUS shows them, one bit each (Table 10-5). -/
theorem irqStatus_getLsbD (n : Fin 5) : s.irqStatus.getLsbD n =
    #v[s.faultCause, s.stuckCause, s.irq.lost, s.irq.safe, s.irq.clearDone][n] :=
  getLsbD_flags #v[s.faultCause, s.stuckCause, s.irq.lost, s.irq.safe, s.irq.clearDone] n

theorem faultCause_iff : s.faultCause = true ↔ s.faults.records ≠ [] ∨ s.faults.overflow ≠ 0 := by
  simp [State.faultCause]

theorem stuckCause_iff : s.stuckCause = true ↔ ∃ b : BankNo, s.fitted b = true ∧ (s.bankState b).isStuck = true := by
  simp [State.stuckCause]

/-- IRQ is asserted while some cause is both active and enabled (R170). -/
theorem irqAsserted_iff : s.irqAsserted = true ↔
    ∃ n : Fin 5, s.irqStatus.getLsbD n = true ∧ s.irq.enables.getLsbD n = true := by
  have bits : s.irqStatus &&& s.irq.enables = 0 ↔
      ∀ n : Fin 5, ¬(s.irqStatus.getLsbD n = true ∧ s.irq.enables.getLsbD n = true) := by
    rw [BitVec.eq_of_getLsbD_eq_iff, Fin.forall_iff]
    refine forall₂_congr fun n _ => ?_
    rw [BitVec.getLsbD_and, BitVec.ofNat_eq_ofNat, BitVec.getLsbD_zero, ← Bool.and_eq_true, Bool.not_eq_true]
  rw [State.irqAsserted, bne_iff_ne, ne_eq, bits, not_forall_not]

end

section
variable {s : State} (hw : s.awaitRise = false) (v : BitVec 16)
include hw

theorem exec_irqStatusWrite_badarg (h : 32 ≤ v.toNat) :
    exec (.irqStatusWrite v) s = .next { s with mgmt := some ⟨3, .badarg, [], false⟩ } := by
  show s.onFrame _ = _
  rw [State.onFrame_taken hw, State.writeIrqStatus, State.writeInRange, if_neg (by simp; omega)]
  rfl

theorem exec_irqEnableWrite_badarg (h : 32 ≤ v.toNat) :
    exec (.irqEnableWrite v) s = .next { s with mgmt := some ⟨3, .badarg, [], false⟩ } := by
  show s.onFrame _ = _
  rw [State.onFrame_taken hw, State.writeIrqEnable, State.writeInRange, if_neg (by simp; omega)]
  rfl

theorem exec_irqStatusWrite (h : v.toNat < 32) : exec (.irqStatusWrite v) s = .next { s with
    irq := { s.irq with
      lost := s.irq.lost && !v.getLsbD 2, safe := s.irq.safe && !v.getLsbD 3
      clearDone := s.irq.clearDone && !v.getLsbD 4 }
    mgmt := some ⟨3, .done, [], false⟩ } := by
  show s.onFrame _ = _
  rw [State.onFrame_taken hw, State.writeIrqStatus, State.writeInRange, if_pos (by simpa using h)]
  rfl

theorem exec_irqEnableWrite (h : v.toNat < 32) : exec (.irqEnableWrite v) s = .next { s with
    irq := { s.irq with enables := v.extractLsb' 0 5 }, mgmt := some ⟨3, .done, [], false⟩ } := by
  have five : v.extractLsb' 0 5 = v.setWidth 5 := BitVec.eq_of_toNat_eq (by simp)
  show s.onFrame _ = _
  rw [State.onFrame_taken hw, State.writeIrqEnable, State.writeInRange, if_pos (by simpa using h), five]
  rfl

end

/-- Settles O52: the five bits of IRQ STATUS, the output, and the reads and writes of the two registers. -/
theorem interruptCausesAreShownClearedAndEnabled : Obligations.InterruptCausesAreShownClearedAndEnabled := by
  intro s v
  refine ⟨?_, ?_, irqStatus_getLsbD s 2, irqStatus_getLsbD s 3, irqStatus_getLsbD s 4, irqAsserted_iff s,
    fun hw => ⟨State.onFrame_taken hw _, State.onFrame_taken hw _⟩,
    fun hw h => ⟨exec_irqStatusWrite_badarg hw v h, exec_irqEnableWrite_badarg hw v h⟩,
    fun hw h => ⟨exec_irqStatusWrite hw v h, exec_irqEnableWrite hw v h⟩⟩
  · rw [← faultCause_iff]
    exact iff_of_eq (congrArg (· = true) (irqStatus_getLsbD s 0))
  · rw [← stuckCause_iff]
    exact iff_of_eq (congrArg (· = true) (irqStatus_getLsbD s 1))

end Sys2Proof.Machine

/-! The configuration registers stay in range (Table 10-5), and the mode agrees with SUPWARN and the store (R173, R176): what
writes no register out of range, keeps the mode and SUPWARN and empties no store keeps both (`SettingsKept`); a freeing of lines
and a change of SUPWARN set the mode themselves. -/

namespace Sys2Proof.Machine

/-- The registers stand in range, and the mode agrees with SUPWARN and the store. -/
def SettingsLegal (s : State) : Prop := s.RegistersInRange ∧ s.ModeFollowsInput

theorem rangesKept_of_regs {s t : State} (h : t.regs = s.regs) (hs : s.RegistersInRange) : t.RegistersInRange := by
  unfold State.RegistersInRange
  rwa [h]

/-- Registers in range stay so, the mode and SUPWARN stay as they are, and a store that holds a line goes on to hold one. -/
structure SettingsKept (s t : State) : Prop where
  ranges : s.RegistersInRange → t.RegistersInRange := by exact id
  mode : t.mode = s.mode := by rfl
  supwarn : t.pins.supwarn = s.pins.supwarn := by rfl
  lines : s.store.fill ≠ 0 → t.store.fill ≠ 0 := by exact id

namespace SettingsKept

theorem legal {s t : State} (k : SettingsKept s t) (h : SettingsLegal s) : SettingsLegal t := by
  obtain ⟨ranges, warn, recover⟩ := h
  exact ⟨k.ranges ranges, by rw [k.mode, k.supwarn]; exact warn, fun hm => k.lines (recover (k.mode ▸ hm))⟩

theorem refl (s : State) : SettingsKept s s := {}

theorem trans {s t u : State} (k : SettingsKept s t) (k' : SettingsKept t u) : SettingsKept s u :=
  ⟨fun h => k'.ranges (k.ranges h), k'.mode.trans k.mode, k'.supwarn.trans k.supwarn, fun h => k'.lines (k.lines h)⟩

theorem of_blocks {s t : State} (regs : t.regs = s.regs := by simp) (mode : t.mode = s.mode := by simp)
    (pins : t.pins = s.pins := by simp) (store : t.store = s.store := by simp) : SettingsKept s t :=
  ⟨rangesKept_of_regs regs, mode, by rw [pins], by rw [store]; exact id⟩

/-- What follows an event writes no register, keeps the mode and SUPWARN, and empties no store. -/
theorem of_steps {s t : State} (k : EndSteps s t) : SettingsKept s t :=
  have ends := eventEnd_steps k
  ⟨rangesKept_of_regs ends.regs, ends.mode, by rw [ends.pins], ends.fill⟩

theorem foldl {α : Type} {f : State → α → State} (hf : ∀ s a, SettingsKept s (f s a)) (l : List α) (s : State) :
    SettingsKept s (l.foldl f s) := by
  induction l generalizing s with
  | nil => exact .refl s
  | cons a l ih => exact (hf s a).trans (ih _)

end SettingsKept

/-! ## The changes of the mode -/

/-- A freeing of lines ends RECOVER where it empties the store, so that the mode agrees whatever it frees (R176). -/
theorem afterFreeing_legal {s x : State} (h : SettingsLegal s) (b : BankNo) (regs : x.regs = s.regs)
    (mode : x.mode = s.mode) (pins : x.pins = s.pins) : SettingsLegal (x.afterFreeing b) := by
  obtain ⟨ranges, warn, -⟩ := h
  refine ⟨rangesKept_of_regs ((State.afterFreeing_regs x b).trans regs) ranges, ?_⟩
  rw [← mode, ← pins] at warn
  unfold State.ModeFollowsInput
  rw [afterFreeing_mode, State.afterFreeing_pins, State.afterFreeing_store]
  split
  next ended =>
    obtain ⟨recover, -⟩ := ended
    rw [recover] at warn
    exact ⟨by simpa using warn, nofun⟩
  next goesOn => exact ⟨warn, fun recover empty => goesOn ⟨recover, empty⟩⟩

/-- The assertion of SUPWARN enters WARN (R174). -/
theorem warnEntered_legal {s : State} (h : SettingsLegal s) : SettingsLegal (warnEntered s) := by
  obtain ⟨ranges, -⟩ := h
  have regs : (warnEntered s).regs = s.regs := warnEntered_keeps s State.regs (by simp)
  have mode := warnEntered_mode s
  have supwarn : (warnEntered s).pins.supwarn = true := by rw [warnEntered_pins]
  refine ⟨rangesKept_of_regs regs ranges, iff_of_true mode supwarn, fun recover => ?_⟩
  cases mode.symm.trans recover

/-- The negation of SUPWARN leaves WARN, for RECOVER only where the store holds a line (R175). -/
theorem leaveWarn_legal {s : State} (h : SettingsLegal s) : SettingsLegal (s.driveSupwarn false).leaveWarn := by
  obtain ⟨ranges, -, recover⟩ := h
  by_cases warned : s.mode = .warn
  · have left : (s.driveSupwarn false).leaveWarn = warnLeft s := if_pos warned
    rw [left]
    refine ⟨ranges, ?_⟩
    by_cases empty : s.store.fill = 0 <;> simp [State.ModeFollowsInput, warnLeft, State.driveSupwarn, empty]
  · have stays : (s.driveSupwarn false).leaveWarn = s.driveSupwarn false := if_neg warned
    rw [stays]
    exact ⟨ranges, iff_of_false warned Bool.false_ne_true, recover⟩

/-! ## The writes of configuration registers (Table 10-5) -/

theorem banksFitted_inRange {v : BitVec 16} (h : State.configInRange v = true) :
    1 ≤ (v.extractLsb' 0 4).toNat ∧ (v.extractLsb' 0 4).toNat ≤ 8 := by
  obtain ⟨lower, upper, -⟩ := (configInRange_iff v).1 h
  simp only [BitVec.extractLsb'_toNat, Nat.shiftRight_zero]
  omega

theorem tickDiv_inRange {v : BitVec 16} (h : State.configInRange v = true) :
    1 ≤ (v.extractLsb' 8 7).toNat ∧ (v.extractLsb' 8 7).toNat ≤ 64 := by
  obtain ⟨-, -, lower, upper⟩ := (configInRange_iff v).1 h
  simp only [BitVec.extractLsb'_toNat, Nat.shiftRight_eq_div_pow]
  omega

theorem limit_inRange {v : BitVec 16} (h : 1 ≤ v.toNat ∧ v.toNat ≤ 255) : 1 ≤ (v.setWidth 8).toNat := by
  rw [BitVec.toNat_setWidth]
  omega

namespace SettingsKept

variable (s : State)

theorem setTickDiv {v : BitVec 16} (h : State.configInRange v = true) : SettingsKept s (s.setTickDiv v) where
  ranges := fun ⟨fitted, _, rest⟩ => ⟨fitted, tickDiv_inRange h, rest⟩

theorem failBank (b : BankNo) (kind : FaultKind) : SettingsKept s (s.failBank b kind) := .of_blocks

theorem refit {v : BitVec 16} (h : State.configInRange v = true) : SettingsKept s (s.refit v) := by
  have taken : SettingsKept s { s with regs := { s.regs with banksFitted := v.extractLsb' 0 4 } } :=
    { ranges := fun ⟨_, rest⟩ => ⟨banksFitted_inRange h, rest⟩ }
  refine taken.trans (foldl (fun t b => ?_) _ _)
  unfold State.fitBank
  split
  · exact .trans (t := t.setBank b fun _ => BankRecord.reset) {} .of_blocks
  · exact .refl t

theorem writeHwm {v : BitVec 16} (h : 1 ≤ v.toNat ∧ v.toNat ≤ 32) :
    SettingsKept s { s with regs := { s.regs with hwm := v.setWidth 6 } } where
  ranges := fun ⟨fitted, div, _, limits⟩ => by
    refine ⟨fitted, div, ?_, limits⟩
    rw [BitVec.toNat_setWidth]
    omega

theorem writeSettleLimit {v : BitVec 16} (h : 1 ≤ v.toNat ∧ v.toNat ≤ 255) :
    SettingsKept s { s with regs := { s.regs with settleLimit := v.setWidth 8 } } where
  ranges := fun ⟨fitted, div, hwm, _, access⟩ => ⟨fitted, div, hwm, limit_inRange h, access⟩

theorem writeAccessLimit {v : BitVec 16} (h : 1 ≤ v.toNat ∧ v.toNat ≤ 255) :
    SettingsKept s { s with regs := { s.regs with accessLimit := v.setWidth 8 } } where
  ranges := fun ⟨fitted, div, hwm, settle, _⟩ => ⟨fitted, div, hwm, settle, limit_inRange h⟩

theorem captureLow (r : Register) : SettingsKept s (s.captureLow r) := by
  cases r <;> exact {}

/-! ## Requests and the ends of operations -/

theorem takeRequest (r : Request) : SettingsKept s (s.takeRequest r) := by
  have judged := s.judge_justified r
  unfold State.takeRequest
  split
  · cases hv : (s.judge r).entryStatus with
    | none =>
      rw [State.firstEvaluation_answered s r hv]
      exact of_steps (State.perform_steps s r _ judged)
    | some st =>
      rw [State.firstEvaluation_entered s r st hv]
      exact .trans (t := s.appendEntry r st) {} (of_steps (State.perform_steps (s.appendEntry r st) r _ judged))
  · exact {}

theorem routeWord (report : Report) (data : Vector Word 8) : SettingsKept s (s.routeWord report data) := by
  unfold State.routeWord
  split
  · exact {}
  · split
    · exact {}
    · split <;> exact {}

theorem clearFailed (b : BankNo) : SettingsKept s (s.clearFailed b) := by
  unfold State.clearFailed
  exact .of_blocks

theorem routeZero (report : Report) : SettingsKept s (s.routeZero report) := by
  have advance : ∀ (u : State) (b : BankNo), SettingsKept u (u.advanceClear b) := fun u b => by
    unfold State.advanceClear
    split <;> exact {}
  unfold State.routeZero
  split
  · split
    · exact {}
    next b _ =>
      refine .trans ?_ (advance _ b)
      cases report with
      | ok => exact {}
      | error => exact .trans (clearFailed s b) {}
  · exact {}

theorem renewed (i : SlotNo) : SettingsKept s (s.renewed i) where
  lines := (s.store.onLine_fill i (renewedLine s.clock.msTime)).trans_ne

theorem tellTimeout (op : InFlight) : SettingsKept s (s.tellTimeout op) := by
  unfold State.tellTimeout
  split
  · exact {}
  next i _ =>
    split
    · exact { lines := (s.store.onLine_fill i
        fun l => { l with state := .held, drainContributors := 0, redirty := false }).trans_ne }
    · exact {}
  · exact {}

theorem timeOut (op : InFlight) : SettingsKept s (s.timeOut op) := by
  have ended : SettingsKept s (s.endOperation op.bank) := {}
  unfold State.timeOut
  exact ended.trans ((tellTimeout _ op).trans .of_blocks)

/-! ## The banks, the level inputs and the timebase -/

theorem addCause (b : BankNo) (f : DrainCauses → DrainCauses) : SettingsKept s (s.addCause b f) := .of_blocks

theorem flushEvery : SettingsKept s s.flushEvery := by
  refine foldl (fun t b => ?_) _ s
  split
  · exact addCause t b _
  · exact .refl t

theorem warmReset : SettingsKept s (resetAsserted s) := by
  obtain ⟨-, -, -, -, mode, -⟩ := resetAsserted_rest s
  refine ⟨fun ranges => ?_, mode, rfl, by rw [resetAsserted_store, LineStore.returnAllHeld_fill]; exact id⟩
  unfold State.RegistersInRange
  rwa [resetAsserted_regs]

theorem removeHead : SettingsKept s s.removeHead := by
  unfold State.removeHead
  split
  · exact {}
  · exact .of_blocks

theorem clearUnlogged (b : BankNo) : SettingsKept s (s.clearUnlogged b) := by
  unfold State.clearUnlogged
  exact .of_blocks

theorem milliStep : SettingsKept s s.milliStep := by
  have aged : s.store.ageAll.fill = 0 → s.store.fill = 0 := by
    rw [LineStore.fill_eq_zero_iff, LineStore.fill_eq_zero_iff]
    intro empty i
    simpa only [LineStore.ageAll_slot, Option.map_eq_none_iff] using empty i
  have lines : s.store.fill ≠ 0 → s.milliStep.store.fill ≠ 0 := by rw [milliStep_store]; exact mt aged
  revert lines
  unfold State.milliStep
  generalize s.store.ageAll = st
  dsimp only
  split
  · exact fun lines => { lines }
  · exact fun lines => { lines }

theorem clockCycle : SettingsKept s s.clockCycle := by
  have access : ∀ u : State, SettingsKept u u.tickAccess := fun u => by
    unfold State.tickAccess
    split <;> exact {}
  have settle : ∀ u : State, SettingsKept u u.tickSettle := fun u => by
    unfold State.tickSettle
    split <;> exact {}
  have idle : ∀ u : State, SettingsKept u u.tickIdle := fun u => by
    unfold State.tickIdle
    split <;> exact {}
  have milli : ∀ u : State, SettingsKept u u.tickMilli := fun u => by
    unfold State.tickMilli
    split
    · exact {}
    · exact .trans (t := { u with clock := { u.clock with milli := 0 } }) {} (milliStep _)
  unfold State.clockCycle
  split
  · exact {}
  · exact .trans (t := { s with clock := { s.clock with divider := 0 } }) {}
      ((access _).trans ((settle _).trans ((idle _).trans (milli _))))

end SettingsKept

/-! ## Lines that leave the store -/

/-- A completed drain write frees its slot, renews it, or leaves it alone (R12 to R14). -/
theorem routeLine_legal {s : State} (h : SettingsLegal s) (i : SlotNo) (report : Report) :
    SettingsLegal (s.routeLine i report) := by
  unfold State.routeLine
  split
  · exact h
  next l _ =>
    split
    · exact h
    · exact afterFreeing_legal h l.bank rfl rfl rfl
    · exact (SettingsKept.renewed s i).legal h
    · exact afterFreeing_legal h l.bank (State.handFault_regs ..) (State.handFault_mode ..) (State.handFault_pins ..)

theorem complete_legal {s : State} (h : SettingsLegal s) (op : InFlight) (report : Report) (data : Vector Word 8) :
    SettingsLegal ((s.endOperation op.bank).route op report data) := by
  have ended : SettingsLegal (s.endOperation op.bank) := SettingsKept.legal {} h
  unfold State.route
  split
  · exact (SettingsKept.routeWord _ report data).legal ended
  · exact routeLine_legal ended _ report
  · exact (SettingsKept.routeZero _ report).legal ended

theorem discardBank_legal {s : State} (h : SettingsLegal s) (b : BankNo) : SettingsLegal (s.discardBank b) := by
  have freed : SettingsLegal ({ s with store := s.store.discard b }.afterFreeing b) :=
    afterFreeing_legal h b rfl rfl rfl
  unfold State.discardBank
  exact SettingsKept.legal .of_blocks freed

/-! ## Every command, and every step -/

/-- Every command's own effect keeps the settings legal. -/
theorem ownEffect_legal {s u : State} (k : OwnEffect s u) (h : SettingsLegal s) : SettingsLegal u := by
  have kept : ∀ {v : State}, SettingsKept s v → SettingsLegal v := fun k => k.legal h
  have sampled : ∀ (b : BankNo) (level : StatusLevel) (settled : Bool),
      SettingsKept s ((s.drive b level settled).sampleLines b) := fun b level settled => {}
  cases k with
  | take r hp hm => exact kept (.takeRequest s r)
  | complete op report data hp => exact complete_legal h op report data
  | timeOut op hp => exact kept (.timeOut s op)
  | settleTimeout b hb => exact kept (.failBank s b _)
  | settleWaking b level settled o hf hb => exact kept ((sampled b level settled).trans .of_blocks)
  | settleDescending b level settled o hf hb => exact kept ((sampled b level settled).trans .of_blocks)
  | unsolicited b level settled hf => exact kept ((sampled b level settled).trans (.failBank _ b _))
  | descend b o => exact kept .of_blocks
  | cause b f => exact kept (.addCause s b f)
  | flushEvery => exact kept (.flushEvery s)
  | warn => exact warnEntered_legal h
  | leaveWarn => exact leaveWarn_legal h
  | warmReset hr => exact kept (.warmReset s)
  | removeHead => exact kept (.trans (t := s.endFrame) {} (.removeHead _))
  | clearUnlogged b => exact kept (.clearUnlogged s b)
  | capture r => exact kept (.captureLow s r)
  | tickDiv v hv => exact kept (.setTickDiv s hv)
  | refit v hv hm => exact kept ((SettingsKept.setTickDiv s hv).trans (.refit _ hv))
  | hwm v hv => exact kept (.writeHwm s (by simpa using hv))
  | settleLimit v hv => exact kept (.writeSettleLimit s (by simpa using hv))
  | accessLimit v hv => exact kept (.writeAccessLimit s (by simpa using hv))
  | wake b o hf hb => exact kept .of_blocks
  | discard b hf hb => exact discardBank_legal h b
  | clearWake b o hf hb hl => exact kept .of_blocks
  | millisecond => exact kept (.milliStep s)
  | _ => exact kept {}

/-- Power-on reset gives the registers their power-on values, and the mode NORMAL or WARN as SUPWARN stands (R184). -/
theorem powerOnReset_legal {s t : State} (h : exec .powerOnReset s = .next t) : SettingsLegal t := by
  obtain ⟨u, hu, -, -, -, -, -, -, -, regs, -, -, pins, -, -, mode, -⟩ := powerOnResetGivesThePowerOnValues.2 s
  cases hu.symm.trans h
  have ranges : t.RegistersInRange := by
    unfold State.RegistersInRange
    rw [regs]
    decide
  refine ⟨ranges, ?_⟩
  unfold State.ModeFollowsInput
  rw [mode, pins]
  cases s.pins.supwarn <;> simp

/-- Every command keeps the settings legal: what follows its own effect moves none of them. -/
theorem result_legal {s t : State} (k : Result s t) (h : SettingsLegal s) : SettingsLegal t := by
  induction k with
  | plain k => exact ownEffect_legal k h
  | ended k released => exact (SettingsKept.of_steps (State.finish_steps ..)).legal (ownEffect_legal k h)
  | completed k released => exact (SettingsKept.of_steps (State.finishCompletion_steps ..)).legal (ownEffect_legal k h)
  | replied _ _ _ _ ih => exact SettingsKept.legal {} ih
  | reset => exact powerOnReset_legal (s := s) rfl

/-- Settles O16: registers take checked values alone; the mode changes with SUPWARN, and where a freeing of lines empties the
store in RECOVER. -/
theorem stepKeepsRegistersAndModeLegal : Obligations.StepKeepsRegistersAndModeLegal := by
  intro s t h hs
  rcases step_result hs with ⟨rest, k⟩ | rfl
  · exact result_legal k h
  · exact (SettingsKept.clockCycle s).legal h

end Sys2Proof.Machine

/-! The register file (Table 10-5): the numbers of the registers, their reads (R190, R195) and the checked writes of the limits and
the read-only registers (R190, R193), and the RESET RECORD (R199). -/

namespace Sys2Proof.Machine

/-! ## The numbers of the registers -/

/-- The number of a register (Table 10-5). -/
def Register.number (r : Register) : Nat :=
  match r with
  | .config => 0x00
  | .hwm => 0x01
  | .ageLimit => 0x02
  | .settleLimit => 0x03
  | .accessLimit => 0x04
  | .irqStatus => 0x05
  | .irqEnable => 0x06
  | .resetRecord => 0x07
  | .lateCount => 0x08
  | .absorbedHigh => 0x09
  | .absorbedLow => 0x0A
  | .servedHigh => 0x0B
  | .servedLow => 0x0C
  | .drainedHigh => 0x0D
  | .drainedLow => 0x0E
  | .msTime => 0x0F
  | .policyA b => 0x10 + b.val
  | .policyB b => 0x18 + b.val
  | .wakeCount b => 0x20 + b.val

theorem eighth_eq_some_iff (n : Nat) (b : BankNo) : eighth n = some b ↔ n = b.val := by
  unfold eighth
  split
  · simp [Fin.ext_iff]
  next h => exact iff_of_false nofun fun e => h (e ▸ b.isLt)

/-- A number names the register whose number it is, and no other. -/
theorem registerOf_eq_some_iff (number : Byte) (r : Register) : registerOf number = some r ↔ number.toNat = r.number := by
  constructor
  · intro h
    unfold registerOf at h
    dsimp only at h
    split at h
    iterate 16 (cases h; assumption)
    have banked : ∀ {k : Nat} {f : BankNo → Register}, k ≤ number.toNat →
        (eighth (number.toNat - k)).map f = some r → ∃ b : BankNo, number.toNat = k + b.val ∧ f b = r := by
      intro k f hk hb
      obtain ⟨b, he, hr⟩ := Option.map_eq_some_iff.1 hb
      have := (eighth_eq_some_iff _ b).1 he
      exact ⟨b, by omega, hr⟩
    have high : 0x10 ≤ number.toNat := by
      simp only [imp_false] at *
      omega
    split at h
    · obtain ⟨b, hn, rfl⟩ := banked high h
      exact hn
    · split at h
      · obtain ⟨b, hn, rfl⟩ := banked (k := 0x18) (by omega) h
        exact hn
      · obtain ⟨b, hn, rfl⟩ := banked (k := 0x20) (by omega) h
        exact hn
  · intro h
    have hn : number = BitVec.ofNat 8 r.number := by rw [← h, BitVec.ofNat_toNat, BitVec.setWidth_eq]
    subst hn
    clear h
    cases r with
    | policyA b => revert b; decide
    | policyB b => revert b; decide
    | wakeCount b => revert b; decide
    | _ => rfl

theorem Register.number_lt (r : Register) : r.number < 0x28 := by
  cases r with
  | policyA b => simp only [Register.number]; omega
  | policyB b => simp only [Register.number]; omega
  | wakeCount b => simp only [Register.number]; omega
  | _ => decide

theorem registerOf_outside {number : Byte} (h : 0x28 ≤ number.toNat) : registerOf number = none := by
  cases hr : registerOf number with
  | none => rfl
  | some r =>
    have inside := r.number_lt
    have := (registerOf_eq_some_iff number r).1 hr
    omega

theorem registerOf_inside {number : Byte} (h : number.toNat < 0x28) : ∃ r, registerOf number = some r := by
  have named : ∀ k : Fin 0x28, (registerOf (BitVec.ofNat 8 k.val)).isSome = true := by decide
  have := named ⟨number.toNat, h⟩
  rw [BitVec.ofNat_toNat, BitVec.setWidth_eq] at this
  exact Option.isSome_iff_exists.1 this

/-! ## Reads -/

/-- A read of any register but the high half of a counter captures nothing (R195). -/
theorem captureLow_plain (s : State) {r : Register} (h9 : r.number ≠ 0x09) (hB : r.number ≠ 0x0B) (hD : r.number ≠ 0x0D) :
    s.captureLow r = s := by
  cases r with
  | absorbedHigh => exact absurd rfl h9
  | servedHigh => exact absurd rfl hB
  | drainedHigh => exact absurd rfl hD
  | _ => rfl

/-- Two result bytes from two bytes of a value (R186). -/
theorem bytesOf_two_bytes (high low : Byte) : bytesOf 2 (low.toNat + 256 * high.toNat) = [high, low] := by
  have bound : low.toNat < 256 := low.isLt
  have upper : (low.toNat + 256 * high.toNat) / 256 = high.toNat := by omega
  simp [bytesOf, List.range_succ, upper, bound, ← BitVec.toNat_inj]

/-- A value narrower than a byte as a byte of a register. -/
theorem toNat_setWidth_byte {w : Nat} (h : w ≤ 8) (v : BitVec w) : (v.setWidth 8).toNat = v.toNat :=
  BitVec.toNat_setWidth_of_le h

/-- The low half of a counter, as its low register captures it (R195). -/
theorem setWidth_eq_lowHalf (v : BitVec 32) : v.setWidth 16 = v.extractLsb' 0 16 := BitVec.eq_of_toNat_eq (by simp)

section
variable {s : State} (hw : s.awaitRise = false) {number : Byte}
include hw

theorem exec_registerRead {r : Register} (hr : registerOf number = some r) : exec (.counterHighRead number) s =
    .next ((s.captureLow r).reply 1 .done (bytesOf 2 (s.registerValue r))) := by
  show s.onFrame _ = _
  rw [State.onFrame_taken hw, hr]

theorem exec_registerRead_outside (h : 0x28 ≤ number.toNat) :
    exec (.counterHighRead number) s = .next (s.reply 1 .badarg []) := by
  show s.onFrame _ = _
  rw [State.onFrame_taken hw, registerOf_outside h]

/-- A read that captures nothing changes the frame alone (R190). -/
theorem exec_registerRead_plain (h : number.toNat < 0x28) (h9 : number.toNat ≠ 0x09) (hB : number.toNat ≠ 0x0B)
    (hD : number.toNat ≠ 0x0D) : ∃ results, exec (.counterHighRead number) s = .next (s.reply 1 .done results) := by
  obtain ⟨r, hr⟩ := registerOf_inside h
  rw [(registerOf_eq_some_iff number r).1 hr] at h9 hB hD
  exact ⟨_, by rw [exec_registerRead hw hr, captureLow_plain s h9 hB hD]⟩

end

/-! ## Writes -/

section
variable {s : State} (hw : s.awaitRise = false) {v : BitVec 16}
include hw

/-- The write of SETTLE LIMIT or ACCESS LIMIT in their range (R193). -/
theorem exec_limitWrite (h : 1 ≤ v.toNat ∧ v.toNat ≤ 255) :
    exec (.regWrite 0x03 v) s = .next { s with
      regs := { s.regs with settleLimit := v.extractLsb' 0 8 }, mgmt := some ⟨3, .done, [], false⟩ } ∧
    exec (.regWrite 0x04 v) s = .next { s with
      regs := { s.regs with accessLimit := v.extractLsb' 0 8 }, mgmt := some ⟨3, .done, [], false⟩ } := by
  have inRange : (decide (1 ≤ v.toNat) && decide (v.toNat ≤ 255)) = true := by simpa using h
  have low : v.extractLsb' 0 8 = v.setWidth 8 := BitVec.eq_of_toNat_eq (by simp)
  rw [low]
  constructor
  · refine (State.onFrame_taken hw (.next (s.writeSettleLimit v))).trans (congrArg Host.Outcome.next ?_)
    rw [State.writeSettleLimit, State.writeInRange, if_pos inRange]
    rfl
  · refine (State.onFrame_taken hw (.next (s.writeAccessLimit v))).trans (congrArg Host.Outcome.next ?_)
    rw [State.writeAccessLimit, State.writeInRange, if_pos inRange]
    rfl

theorem exec_limitWrite_badarg (h : v.toNat = 0 ∨ 256 ≤ v.toNat) :
    exec (.regWrite 0x03 v) s = .next (s.replyWrite .badarg) ∧ exec (.regWrite 0x04 v) s = .next (s.replyWrite .badarg) := by
  have outOfRange : ¬(decide (1 ≤ v.toNat) && decide (v.toNat ≤ 255)) = true := by simp; omega
  constructor
  · refine (State.onFrame_taken hw (.next (s.writeSettleLimit v))).trans (congrArg Host.Outcome.next ?_)
    rw [State.writeSettleLimit, State.writeInRange, if_neg outOfRange]
  · refine (State.onFrame_taken hw (.next (s.writeAccessLimit v))).trans (congrArg Host.Outcome.next ?_)
    rw [State.writeAccessLimit, State.writeInRange, if_neg outOfRange]

/-- The read-only registers stand at 0x08 to 0x0F and at 0x20 to 0x27 (Table 10-5). -/
theorem exec_regWrite_readOnly {number : Byte}
    (h : (0x08 ≤ number.toNat ∧ number.toNat ≤ 0x0F) ∨ (0x20 ≤ number.toNat ∧ number.toNat ≤ 0x27)) :
    exec (.regWrite number v) s = .next (s.replyWrite .refused) := by
  obtain ⟨r, hr⟩ := registerOf_inside (number := number) (by omega)
  rw [(registerOf_eq_some_iff number r).1 hr] at h
  show s.onFrame _ = _
  rw [State.onFrame_taken hw, hr]
  cases r with
  | policyA b => simp only [Register.number] at h; omega
  | policyB b => simp only [Register.number] at h; omega
  | lateCount | absorbedHigh | absorbedLow | servedHigh | servedLow | drainedHigh | drainedLow | msTime | wakeCount => rfl
  | _ => exact absurd h (by decide)

theorem exec_regWrite_outside {number : Byte} (h : 0x28 ≤ number.toNat) :
    exec (.regWrite number v) s = .next (s.replyWrite .badarg) := by
  show s.onFrame _ = _
  rw [State.onFrame_taken hw, registerOf_outside h]

end

/-- Settles O49, register by register: a read answers with the register's value, and a write makes the checks of R190. -/
theorem registerReadsAndWritesAreChecked : Obligations.RegisterReadsAndWritesAreChecked := by
  intro s number v hw
  have read : ∀ (n : Byte) (r : Register), n.toNat = r.number → exec (.counterHighRead n) s =
      .next ((s.captureLow r).reply 1 .done (bytesOf 2 (s.registerValue r))) := fun n r hn =>
    exec_registerRead hw ((registerOf_eq_some_iff n r).2 hn)
  have config : bytesOf 2 (s.registerValue .config) = [s.regs.tickDiv.setWidth 8, s.regs.banksFitted.setWidth 8] := by
    rw [← bytesOf_two_bytes, toNat_setWidth_byte (by decide), toNat_setWidth_byte (by decide)]
    rfl
  have hwm : bytesOf 2 (s.registerValue .hwm) = [0, s.regs.hwm.setWidth 8] := by
    rw [← bytesOf_two_of_byte, toNat_setWidth_byte (by decide)]
    rfl
  have policyA : ∀ b : BankNo, s.registerValue (.policyA b) = (s.regs.policy[b]).retainDelay.toNat +
      4096 * (s.regs.policy[b]).offAllowed.toNat + 8192 * (s.regs.policy[b]).clearOnWake.toNat +
      16384 * (s.regs.policy[b]).lostCheck.toNat := fun b => by
    simp only [State.registerValue, flagsValue]
    omega
  refine ⟨config ▸ read _ .config rfl, hwm ▸ read _ .hwm rfl, read _ .ageLimit rfl,
    bytesOf_two_of_byte s.regs.settleLimit ▸ read _ .settleLimit rfl,
    bytesOf_two_of_byte s.regs.accessLimit ▸ read _ .accessLimit rfl, fun b hb => policyA b ▸ read _ (.policyA b) hb,
    fun b hb => read _ (.policyB b) hb, setWidth_eq_lowHalf s.store.absorbedWrites ▸ read _ .absorbedHigh rfl,
    read _ .absorbedLow rfl, setWidth_eq_lowHalf s.store.servedReads ▸ read _ .servedHigh rfl, read _ .servedLow rfl,
    setWidth_eq_lowHalf s.store.drainedLines ▸ read _ .drainedHigh rfl, read _ .drainedLow rfl, read _ .msTime rfl,
    fun b hb => read _ (.wakeCount b) hb, fun h h9 hB hD => ?_, exec_registerRead_outside hw, exec_limitWrite hw,
    exec_limitWrite_badarg hw, exec_regWrite_readOnly hw, exec_regWrite_outside hw⟩
  obtain ⟨results, he⟩ := exec_registerRead_plain hw h h9 hB hD
  exact ⟨_, he, rfl⟩

/-! ## The power-on values -/

/-- The values of Table 10-5 after power-on reset. -/
theorem reset_registerValue (r : Register) : State.reset.registerValue r =
    match r with
    | .config => 0x1908
    | .hwm => 0x18
    | .ageLimit => 0x64
    | .settleLimit => 0x32
    | .accessLimit => 0x40
    | _ => 0 := by
  cases r with
  | policyA b => simp [State.registerValue, State.reset, Registers.reset, Policy.reset, flagsValue]
  | policyB b => simp [State.registerValue, State.reset, Registers.reset, Policy.reset]
  | wakeCount b => simp only [State.registerValue, State.reset_bank]; rfl
  | _ => rfl

/-- After power-on reset a counter is zero, and so is the half that a read of it captures (R195). -/
theorem reset_captureLow (r : Register) : State.reset.captureLow r = State.reset := by cases r <;> rfl

/-- Settles O5: the power-on value of each register, as a read returns it. -/
theorem resetRegistersReadAsTheTableGives : Obligations.ResetRegistersReadAsTheTableGives := by
  intro number h
  obtain ⟨r, hr⟩ := registerOf_inside h
  rw [exec_registerRead (s := State.reset) rfl hr, reset_captureLow, reset_registerValue,
    (registerOf_eq_some_iff number r).1 hr]
  cases r with
  | policyA b | policyB b | wakeCount b => fin_cases b <;> rfl
  | _ => rfl

/-! ## The RESET RECORD -/

/-- Settles O53: the assertion of RESETn writes the record, the negation and what follows either leave it, and power-on reset
and a write of zero clear it. -/
theorem resetRecordCountsAssertions : Obligations.ResetRecordCountsAssertions := by
  intro s v
  have written : ∀ inRange : Bool, (v == 0) = inRange → s.awaitRise = false → exec (.resetRecordWrite v) s =
      .next (if inRange then
        { s with regs := { s.regs with resetCount := 0, linesAtReset := 0 } }.replyWrite .done else s.replyWrite .badarg) := by
    intro inRange hv hw
    refine (State.onFrame_taken hw _).trans (congrArg Host.Outcome.next ?_)
    rw [State.writeResetRecord, State.writeInRange, hv]
  refine ⟨fun h => ⟨_, exec_resetnAssertion h, ?_⟩, ?_, ?_, fun hw => ?_, fun hw hv => written true (by simpa using hv) hw,
    fun hw hv => written false (by simpa using hv) hw⟩
  · rw [(finish_eventEnd (resetAsserted s) s false).regs, resetAsserted_regs, satInc_eq]
    exact ⟨rfl, rfl⟩
  · cases asserted : s.pins.resetn with
    | false => exact ⟨s, if_neg (by simp [asserted]), rfl, rfl⟩
    | true =>
      refine ⟨_, exec_resetnNegation asserted, ?_⟩
      rw [(finish_eventEnd (s.driveResetn false) s false).regs]
      exact ⟨rfl, rfl⟩
  · obtain ⟨t, ht, -, -, -, -, -, -, -, regs, -⟩ := powerOnResetGivesThePowerOnValues.2 s
    exact ⟨t, ht, by rw [regs]; exact ⟨rfl, rfl⟩⟩
  · rw [← bytesOf_two_bytes]
    exact exec_registerRead hw ((registerOf_eq_some_iff 0x07 .resetRecord).2 rfl)

end Sys2Proof.Machine

/-! The frames of the management port (R186, R187): a frame is read back as its command, bits as bytes, and a reply is shifted out
in its place. -/

namespace Sys2Proof.Machine

/-! ## Bytes of a value -/

theorem join2_split2 (v : BitVec 16) : join2 (v.extractLsb' 8 8) (v.extractLsb' 0 8) = v := by
  unfold join2
  rw [BitVec.extractLsb'_append_extractLsb'_eq_extractLsb' (rfl : 8 = 0 + 8)]
  exact BitVec.extractLsb'_eq_self

theorem join3_split3 (v : BitVec 24) :
    join3 (v.extractLsb' 16 8) (v.extractLsb' 8 8) (v.extractLsb' 0 8) = v := by
  unfold join3
  rw [BitVec.extractLsb'_append_extractLsb'_eq_extractLsb' (rfl : 16 = 8 + 8),
    BitVec.extractLsb'_append_extractLsb'_eq_extractLsb' (rfl : 8 = 0 + 8)]
  exact BitVec.extractLsb'_eq_self

theorem byte_ofNat_toNat (b : Byte) : BitVec.ofNat 8 b.toNat = b := by rw [BitVec.ofNat_toNat, BitVec.setWidth_eq]

/-! ## Frames are read back -/

/-- A register without a row of its own is written by the row REG_WRITE (Table 10-5). -/
theorem registerWriteOf_plain {register : Byte} (h : hasOwnWriteRow register = false) (v : BitVec 16) :
    registerWriteOf register v = .regWrite register v := by
  simp only [hasOwnWriteRow, Bool.or_eq_false_iff, Bool.and_eq_false_iff, decide_eq_false_iff_not] at h
  obtain ⟨⟨low, middle⟩, policy⟩ := h
  unfold registerWriteOf
  split
  iterate 6 (exfalso; omega)
  rw [if_neg]
  simp only [Bool.and_eq_true, decide_eq_true_eq]
  omega

/-- A frame of a code and its arguments carries a command: the code has that many argument bytes, and with them is read as the
command; or it is outside Table 10-2, with no argument bytes. -/
def Carried (i : Instr) (code : Byte) (args : List Byte) : Prop :=
  (argumentBytes code = some args.length ∧ decodeCommand code args = some i) ∨
    (argumentBytes code = none ∧ args = [] ∧ i = .invalidCommand [code])

theorem invalidCommand_carried {frame : List Byte} (h : namesNoCommand frame = true) :
    ∃ code args, frame = code :: args ∧ Carried (.invalidCommand frame) code args := by
  unfold namesNoCommand at h
  split at h
  next code => exact ⟨code, [], rfl, .inr ⟨by simpa using h, rfl, rfl⟩⟩
  next code b a =>
    simp only [Bool.and_eq_true, beq_iff_eq, Option.isNone_iff_eq_none] at h
    obtain ⟨rfl, none⟩ := h
    refine ⟨_, _, rfl, .inl ⟨rfl, ?_⟩⟩
    show some ((orderOf b a).getD _) = _
    rw [none]
    rfl
  · cases h

/-- The frame of a REG WRITE carries the row of its register. -/
theorem writeFrame_carried {register : Byte} {i : Instr} {v : BitVec 16} (h : registerWriteOf register v = i) :
    Carried i 0x03 [register, v.extractLsb' 8 8, v.extractLsb' 0 8] := by
  refine .inl ⟨rfl, ?_⟩
  show some (registerWriteOf register (join2 _ _)) = _
  rw [join2_split2, h]

/-- Every well-formed command with a frame is carried by it. -/
theorem frame_carried {i : Instr} {frame : List Byte} (hw : i.wellFormed = true) (he : encodeFrame i = some frame) :
    ∃ code args, frame = code :: args ∧ Carried i code args := by
  cases i with
  | invalidCommand bytes =>
    cases he
    exact invalidCommand_carried hw
  | regWrite register v =>
    cases he
    refine ⟨_, _, rfl, writeFrame_carried ?_⟩
    rw [byte_ofNat_toNat]
    exact registerWriteOf_plain (by simpa [Instr.wellFormed] using hw) v
  | configWrite v | hwmWrite v | ageLimitWrite v | irqStatusWrite v | irqEnableWrite v | resetRecordWrite v =>
    cases he
    exact ⟨_, _, rfl, writeFrame_carried rfl⟩
  | bankPolicyAWrite b v | bankPolicyBWrite b v =>
    cases he
    refine ⟨_, _, rfl, writeFrame_carried ?_⟩
    fin_cases b <;> rfl
  | regionWrite entry flags base limit initiators =>
    cases he
    refine ⟨_, _, rfl, .inl ⟨rfl, ?_⟩⟩
    show some (Instr.regionWrite entry flags (join3 _ _ _) (join3 _ _ _) initiators) = _
    rw [join3_split3, join3_split3]
  | status | counterHighRead | regionRead | slotRead | wakeOrder | retainOrder | offOrder | retryOrder | discardOrder
  | clearOrder | unlostOrder | flush | flushAll | faultPeek | faultPop | clearUnlogged =>
    cases he
    exact ⟨_, _, rfl, .inl ⟨rfl, rfl⟩⟩
  | _ => cases he

/-- A carried command is read from its frame, whatever bytes follow. -/
theorem decodeFrame_carried {i : Instr} {code : Byte} {args : List Byte} (h : Carried i code args) (rest : List Byte) :
    decodeFrame (code :: args ++ rest) = some i := by
  rcases h with ⟨count, read⟩ | ⟨outside, rfl, rfl⟩
  · simp [decodeFrame, count, read]
  · simp [decodeFrame, outside]

/-- No proper beginning of its frame is read as a command. -/
theorem decodeFrame_beginning {i : Instr} {code : Byte} {args : List Byte} (h : Carried i code args) {n : Nat}
    (hn : n < (code :: args).length) : decodeFrame ((code :: args).take n) = none := by
  cases n with
  | zero => rfl
  | succ n =>
    have fewer : n < args.length := Nat.lt_of_succ_lt_succ hn
    rcases h with ⟨count, -⟩ | ⟨-, rfl, -⟩
    · simp [decodeFrame, count, fewer]
    · cases fewer

/-! ## Bits -/

/-- The bits of a byte, most significant first, as flags from the least significant on. -/
theorem horner_eq_flagsValue (b7 b6 b5 b4 b3 b2 b1 b0 : Bool) :
    ((((((b7.toNat * 2 + b6.toNat) * 2 + b5.toNat) * 2 + b4.toNat) * 2 + b3.toNat) * 2 + b2.toNat) * 2 + b1.toNat) * 2 +
      b0.toNat = flagsValue [b0, b1, b2, b3, b4, b5, b6, b7] := by
  simp only [flagsValue]
  omega

theorem getLsbD_ofFlags (l : List Bool) {k : Nat} (hk : k < 8) : (BitVec.ofNat 8 (flagsValue l)).getLsbD k = (l[k]?).getD false := by
  rw [BitVec.getLsbD_ofNat, testBit_flagsValue, decide_eq_true hk, Bool.true_and]

/-- Bits that no eight begin are those of an incomplete byte. -/
theorem incomplete_lt_eight {bits : List Bool}
    (h : ∀ b7 b6 b5 b4 b3 b2 b1 b0 rest, bits = b7 :: b6 :: b5 :: b4 :: b3 :: b2 :: b1 :: b0 :: rest → False) :
    bits.length < 8 := by
  rcases bits with _ | ⟨b7, _ | ⟨b6, _ | ⟨b5, _ | ⟨b4, _ | ⟨b3, _ | ⟨b2, _ | ⟨b1, _ | ⟨b0, rest⟩⟩⟩⟩⟩⟩⟩⟩
  case cons.cons.cons.cons.cons.cons.cons.cons => exact (h b7 b6 b5 b4 b3 b2 b1 b0 rest rfl).elim
  all_goals simp

/-- Every eight bits are a byte, most significant bit first. -/
theorem bytesOfBits_bit (bits : List Bool) : ∀ k j : Nat, k < bits.length / 8 → j < 8 →
    ∃ byte : Byte, (bytesOfBits bits)[k]? = some byte ∧ bits[8 * k + j]? = some (byte.getLsbD (7 - j)) := by
  induction bits using bytesOfBits.induct with
  | case1 b7 b6 b5 b4 b3 b2 b1 b0 rest ih =>
    intro k j hk hj
    rw [bytesOfBits, horner_eq_flagsValue]
    cases k with
    | zero =>
      refine ⟨_, rfl, ?_⟩
      rw [getLsbD_ofFlags _ (by omega)]
      interval_cases j <;> rfl
    | succ k =>
      have place : 8 * (k + 1) + j = 8 * k + j + 8 := by omega
      rw [place]
      exact ih k j (by simp only [List.length_cons] at hk; omega) hj
  | case2 bits incomplete =>
    intro k j hk
    have := incomplete_lt_eight incomplete
    omega

/-- The bits of an incomplete byte are discarded. -/
theorem bytesOfBits_length (bits : List Bool) : (bytesOfBits bits).length = bits.length / 8 := by
  induction bits using bytesOfBits.induct with
  | case1 b7 b6 b5 b4 b3 b2 b1 b0 rest ih =>
    rw [bytesOfBits, List.length_cons, ih]
    simp only [List.length_cons]
    omega
  | case2 bits incomplete =>
    rw [bytesOfBits, List.length_nil, Nat.div_eq_of_lt (incomplete_lt_eight incomplete)]
    exact incomplete

/-! ## Bytes shifted out -/

section
variable (f : Frame)

theorem byteOut_argument {k : Nat} (h : k ≤ f.argBytes) : f.byteOut k = 0 := if_pos h

theorem byteOut_status : f.byteOut (f.argBytes + 1) = f.status.code := by simp [Frame.byteOut]

theorem byteOut_result (n : Nat) : f.byteOut (f.argBytes + 2 + n) = (f.results[n]?).getD 0 := by
  have place : f.argBytes + 2 + n - (f.argBytes + 2) = n := by omega
  rw [Frame.byteOut, if_neg (by omega), if_neg (by omega), place]

end

/-- Settles O7: a frame is a code with the argument bytes of its code, which are read as its command. -/
theorem framesCarryTheirCommand : Obligations.FramesCarryTheirCommand := by
  refine ⟨fun i frame hw he => ?_, fun bits => ⟨bytesOfBits_length bits, bytesOfBits_bit bits⟩,
    fun f k => ⟨byteOut_argument f, ?_, ?_, fun h => ?_⟩⟩
  · obtain ⟨code, args, rfl, carried⟩ := frame_carried hw he
    exact ⟨decodeFrame_carried carried, fun n hn => decodeFrame_beginning carried hn⟩
  · rintro rfl
    rw [byteOut_status]
    cases f.status <;> rfl
  · rintro n byte hr rfl
    rw [byteOut_result, hr, Option.getD_some]
  · obtain ⟨n, rfl⟩ := Nat.exists_eq_add_of_le h
    rw [Nat.add_assoc, byteOut_result, List.getElem?_eq_none (Nat.le_add_right _ _), Option.getD_none]

end Sys2Proof.Machine

/-! The timebase (R196, R197): what a CLK cycle makes of each counter and timer, and the expiry event that has come due. -/

namespace Sys2Proof.Machine

/-! ## A tick -/

section
variable (s : State)

theorem tickAccess_eq : s.tickAccess = { s with
    port := { s.port with inFlight := s.port.inFlight.map fun op => { op with accessTimer := op.accessTimer.count } } } := by
  unfold State.tickAccess
  split
  next op h => rw [h, Option.map_some]
  next h => rw [h, Option.map_none, ← h]

theorem countBanks_bank (f : BankRecord → BankRecord) (b : BankNo) : (s.countBanks f).banks[b] = f s.banks[b] :=
  mapAll_self s.banks f b

/-- A tick as the 10 microsecond counter and the settle timers see it. -/
theorem tickSettle_counts :
    s.tickSettle.clock = { s.clock with tenMicro := if s.clock.tenMicro + 1 < 10 then s.clock.tenMicro + 1 else 0 } ∧
      s.tickSettle.port = s.port ∧ s.tickSettle.store = s.store ∧ ∀ b : BankNo, s.tickSettle.banks[b] = { s.banks[b] with
        settleTimer := if s.clock.tenMicro + 1 < 10 then s.banks[b].settleTimer else s.banks[b].settleTimer.count } := by
  unfold State.tickSettle
  split
  · exact ⟨rfl, rfl, rfl, fun _ => rfl⟩
  · exact ⟨rfl, rfl, rfl, fun b => countBanks_bank _ _ b⟩

/-- A tick as the 100 microsecond counter and the idle timers see it. -/
theorem tickIdle_counts :
    s.tickIdle.clock = { s.clock with hundred := if s.clock.hundred + 1 < 100 then s.clock.hundred + 1 else 0 } ∧
      s.tickIdle.port = s.port ∧ s.tickIdle.store = s.store ∧ ∀ b : BankNo, s.tickIdle.banks[b] = { s.banks[b] with
        idleTimer := if s.clock.hundred + 1 < 100 then s.banks[b].idleTimer else s.banks[b].idleTimer.count } := by
  unfold State.tickIdle
  split
  · exact ⟨rfl, rfl, rfl, fun _ => rfl⟩
  · exact ⟨rfl, rfl, rfl, fun b => countBanks_bank _ _ b⟩

/-- A tick as the millisecond counter, the ages and the off timers see it. -/
theorem tickMilli_counts :
    s.tickMilli.clock =
      (if s.clock.milli + 1 < 1000 then { s.clock with milli := s.clock.milli + 1 }
      else { s.clock with
        milli := 0, msTime := s.clock.msTime + 1
        tenMilli := if s.clock.tenMilli + 1 < 10 then s.clock.tenMilli + 1 else 0 }) ∧
      s.tickMilli.port = s.port ∧
      s.tickMilli.store = (if s.clock.milli + 1 < 1000 then s.store else s.store.ageAll) ∧
      ∀ b : BankNo, s.tickMilli.banks[b] = { s.banks[b] with
        offTimer :=
          if s.clock.milli + 1 < 1000 ∨ s.clock.tenMilli + 1 < 10 then s.banks[b].offTimer
          else s.banks[b].offTimer.count } := by
  unfold State.tickMilli
  split
  next early => simp only [early, if_true, true_or, and_self, implies_true]
  next due =>
    obtain ⟨t, ht, hb, clock, -, -, -, banks⟩ :=
      millisecondStepAgesEveryLine { s with clock := { s.clock with milli := 0 } }
    cases ht
    simp only [due, false_or]
    exact ⟨clock, by rw [hb], milliStep_store _, banks⟩

/-- Each tick reaches every counter, and through it or directly every timer (R196). -/
theorem clockCycle_tick (h : s.regs.tickDiv.toNat ≤ s.clock.divider + 1) :
    s.clockCycle = { s with clock := { s.clock with divider := 0 } }.tick := if_neg (Nat.not_lt.mpr h)

end

/-- Steps of a running timer's counter (R197). -/
theorem count_iterate (limit elapsed steps : Nat) :
    Timer.count^[steps] (.running limit elapsed) = .running limit (elapsed + steps) := by
  induction steps with
  | zero => rfl
  | succ n ih => rw [Function.iterate_succ_apply', ih]; rfl

/-! ## The event that has come due -/

/-- A bank is the lowest that meets a condition. -/
def LowestBank (q : BankNo → Prop) (b : BankNo) : Prop := q b ∧ ∀ c < b, ¬q c

section
variable {p : BankNo → Bool} {q : BankNo → Prop} (h : ∀ b, p b = true ↔ q b)
include h

theorem firstBank_eq_some_iff (b : BankNo) : State.firstBank p = some b ↔ LowestBank q b := by
  simp only [State.firstBank, find_finRange_some, LowestBank, h, ← Bool.not_eq_true]

theorem firstBank_eq_none_iff : State.firstBank p = none ↔ ∀ c, ¬q c := by
  simp only [State.firstBank, List.find?_eq_none, List.mem_finRange, h, true_implies]

end

section
variable (s : State)

theorem accessDue_iff : s.accessDue = true ↔ s.AccessDue := by
  unfold State.accessDue State.AccessDue
  cases s.port.inFlight <;> simp

theorem settleDue_iff (b : BankNo) : ((s.bankState b).inTransition && s.banks[b].settleTimer.isDue) = true ↔ s.SettleDue b :=
  Bool.and_eq_true_iff

theorem idleDue_iff (b : BankNo) : (s.bankState b == .active && s.banks[b].idleTimer.isDue) = true ↔ s.IdleDue b := by
  simp only [Bool.and_eq_true, beq_iff_eq, State.IdleDue]

theorem offDue_iff (b : BankNo) : (s.bankState b == .retain && s.banks[b].offTimer.isDue) = true ↔ s.OffDue b := by
  simp only [Bool.and_eq_true, beq_iff_eq, State.OffDue]

theorem ageDue_iff (b : BankNo) : (s.ageExpired b && !(s.causes[b]).age) = true ↔ s.AgeDue b := by
  simp only [Bool.and_eq_true, Bool.not_eq_true', State.AgeDue]

/-- The expiry that has come due: the access timer's, else that of the first kind that has one, at its lowest bank (log 26). -/
theorem dueEvent_eq_some_iff (c : Instr) : s.dueEvent = some c ↔
    (s.AccessDue ∧ c = .accessTimeout) ∨ (¬s.AccessDue ∧
      ((∃ b, LowestBank s.SettleDue b ∧ .settleTimeout b = c) ∨ (∀ b, ¬s.SettleDue b) ∧
      ((∃ b, LowestBank s.IdleDue b ∧ .idleTimerExpiry b = c) ∨ (∀ b, ¬s.IdleDue b) ∧
      ((∃ b, LowestBank s.OffDue b ∧ .offTimerExpiry b = c) ∨ (∀ b, ¬s.OffDue b) ∧
      ∃ b, LowestBank s.AgeDue b ∧ .ageExpiry b = c)))) := by
  unfold State.dueEvent
  rw [← accessDue_iff]
  cases s.accessDue with
  | true => simp [eq_comm]
  | false =>
    simp only [Bool.false_eq_true, if_false, Option.or_eq_some_iff, Option.map_eq_some_iff, Option.map_eq_none_iff,
      firstBank_eq_some_iff (settleDue_iff s), firstBank_eq_none_iff (settleDue_iff s),
      firstBank_eq_some_iff (idleDue_iff s), firstBank_eq_none_iff (idleDue_iff s),
      firstBank_eq_some_iff (offDue_iff s), firstBank_eq_none_iff (offDue_iff s), firstBank_eq_some_iff (ageDue_iff s)]
    simp

theorem dueEvent_eq_none_iff : s.dueEvent = none ↔
    ¬s.AccessDue ∧ ∀ c, ¬s.SettleDue c ∧ ¬s.IdleDue c ∧ ¬s.OffDue c ∧ ¬s.AgeDue c := by
  unfold State.dueEvent
  rw [← accessDue_iff]
  cases s.accessDue with
  | true => simp
  | false =>
    simp only [Bool.false_eq_true, if_false, Option.or_eq_none_iff, Option.map_eq_none_iff,
      firstBank_eq_none_iff (settleDue_iff s), firstBank_eq_none_iff (idleDue_iff s),
      firstBank_eq_none_iff (offDue_iff s), firstBank_eq_none_iff (ageDue_iff s)]
    simp [forall_and]

end

/-- Settles O2: a CLK cycle that brings no tick moves the divider alone; a tick passes through the counters in their order; and
the expiries come due in the order of their kinds. -/
theorem idleStepsRunTheTimebase : Obligations.IdleStepsRunTheTimebase := by
  intro s
  refine ⟨fun idling => ⟨fun c due => ?_, fun none => ?_⟩, fun early => if_pos early, fun due => ?_, fun limit steps => ?_,
    ?_, fun b => ?_, fun b => ?_, fun b => ?_, fun b => ?_, dueEvent_eq_none_iff s⟩
  · simp only [step, idling, idle, due]
  · simp only [step, idling, idle, none]
  · rw [clockCycle_tick s due, State.tick, tickAccess_eq]
    generalize hu : ({ s with
      clock := { s.clock with divider := 0 }
      port := { s.port with inFlight := s.port.inFlight.map fun op => { op with accessTimer := op.accessTimer.count } } } :
        State) = u
    obtain ⟨clock₁, port₁, store₁, banks₁⟩ := tickSettle_counts u
    obtain ⟨clock₂, port₂, store₂, banks₂⟩ := tickIdle_counts u.tickSettle
    obtain ⟨clock₃, port₃, store₃, banks₃⟩ := tickMilli_counts u.tickSettle.tickIdle
    have milli : u.tickSettle.tickIdle.clock.milli = s.clock.milli := by rw [clock₂, clock₁, ← hu]
    refine ⟨?_, fun b => ?_, ?_, fun i => ?_⟩
    · rw [clock₃, clock₂, clock₁, ← hu]
      by_cases h : s.clock.milli + 1 < 1000 <;> simp [h]
    · rw [banks₃, clock₂, banks₂, clock₁, banks₁, ← hu]
    · rw [port₃, port₂, port₁, ← hu]
    · rw [store₃, milli]
      have store : u.tickSettle.tickIdle.store = s.store := by rw [store₂, store₁, ← hu]
      split
      · rw [store]
      · rw [LineStore.ageAll_slot, store]
        rfl
  · rw [Timer.start, count_iterate, Nat.zero_add]
    rfl
  · simp [dueEvent_eq_some_iff]
  · simp [dueEvent_eq_some_iff, LowestBank]
  · simp [dueEvent_eq_some_iff, LowestBank]
  · simp [dueEvent_eq_some_iff, LowestBank]
  · simp [dueEvent_eq_some_iff, LowestBank]

end Sys2Proof.Machine

/-! What a command leaves alone. `Leaves w s t` says that a change from `s` to `t` writes only the blocks that `w` permits;
each operation keeps it under the permissions that it needs, and so does the end of an event. -/

namespace Sys2Proof.Machine

/-- The blocks that a change may write. `ended` permits the counters of late completions and of drained lines, `latches` the
clearing of a latched interrupt flag, `lines` the loss of a line or a valid byte, `rise` and `mgmt` the management port;
`levels`, `stuck`, `lost` and `wakes` are about bank records, `flush` and `warn` about the sets of causes. -/
structure Writes where
  regions : Bool := false
  regs : Bool := false
  clock : Bool := false
  pins : Bool := false
  faults : Bool := false
  mode : Bool := false
  enables : Bool := false
  ended : Bool := false
  latches : Bool := false
  lines : Bool := false
  rise : Bool := false
  mgmt : Bool := false
  levels : Bool := false
  stuck : Bool := false
  lost : Bool := false
  wakes : Bool := false
  flush : Bool := false
  warn : Bool := false
  clear : Bool := false
  inFlight : Bool := false
  requests : Bool := false

/-- A permission that is given asks for nothing. -/
theorem permitted {b : Bool} {P : Prop} (h : b = true) : b = false → P := fun hf => nomatch h.symm.trans hf

/-- How a bank's record changes where only `w` is written. -/
structure RecordLeft (w : Writes) (k k' : BankRecord) : Prop where
  levels : w.levels = false → k'.reported = k.reported ∧ k'.settled = k.settled
  stuck : w.stuck = false → k.state.isStuck = true → k'.state = k.state
  lost : w.lost = false → k.lost = true → k'.lost = true
  wakes : w.wakes = false → k.wakeCount ≤ k'.wakeCount

theorem RecordLeft.refl (w : Writes) (k : BankRecord) : RecordLeft w k k where
  levels := fun _ => ⟨rfl, rfl⟩
  stuck := fun _ _ => rfl
  lost := fun _ h => h
  wakes := fun _ => BitVec.le_refl _

theorem RecordLeft.trans {w : Writes} {k k' k'' : BankRecord} (h : RecordLeft w k k') (h' : RecordLeft w k' k'') :
    RecordLeft w k k'' where
  levels := fun hw => ⟨(h'.levels hw).1.trans (h.levels hw).1, (h'.levels hw).2.trans (h.levels hw).2⟩
  stuck := fun hw hk => (h'.stuck hw (by rw [h.stuck hw hk]; exact hk)).trans (h.stuck hw hk)
  lost := fun hw hk => h'.lost hw (h.lost hw hk)
  wakes := fun hw => BitVec.le_trans (h.wakes hw) (h'.wakes hw)

/-- No line and no valid byte is lost (law L11, R24). -/
def LinesStay (st st' : LineStore) : Prop :=
  ∀ (i : SlotNo) (l : Line), st.slots[i] = some l → ∃ l', st'.slots[i] = some l' ∧ l'.addr = l.addr ∧
    ∀ n : Fin 32, (l.bytes[n]).isSome = true → (l'.bytes[n]).isSome = true

namespace LinesStay

theorem refl (st : LineStore) : LinesStay st st := fun _ l hl => ⟨l, hl, rfl, fun _ hv => hv⟩

theorem trans {st st' st'' : LineStore} (h : LinesStay st st') (h' : LinesStay st' st'') : LinesStay st st'' := by
  intro i l hl
  obtain ⟨l', hl', addr, valid⟩ := h i l hl
  obtain ⟨l'', hl'', addr', valid'⟩ := h' i l' hl'
  exact ⟨l'', hl'', addr'.trans addr, fun n hv => valid' n (valid n hv)⟩

/-- Every slot's line is changed in place. -/
theorem of_map {st st' : LineStore} {f : SlotNo → Line → Line} (hf : ∀ i, KeepsLine (f i))
    (h : ∀ i : SlotNo, st'.slots[i] = (st.slots[i]).map (f i)) : LinesStay st st' := by
  intro i l hl
  exact ⟨f i l, by rw [h, hl, Option.map_some], hf i l⟩

/-- One slot's line is changed in place. -/
theorem onLine {st : LineStore} {i : SlotNo} {f : Line → Line} (hf : KeepsLine f) : LinesStay st (st.onLine i f) :=
  of_map (f := fun j => if i = j then f else id)
    (fun j => by split; exacts [hf, fun _ => ⟨rfl, fun _ hv => hv⟩]) fun j => st.onLine_slot i j f

end LinesStay

/-- The registers without a row of their own, by number (Table 10-5). -/
theorem register_plain {number : Byte} {r : Register} (hw : hasOwnWriteRow number = false)
    (hn : registerOf number = some r) :
    2 < r.number ∧ (r.number < 5 ∨ 7 < r.number) ∧ (r.number < 0x10 ∨ 0x1F < r.number) := by
  rw [registerOf_eq_some_iff] at hn
  simp only [hasOwnWriteRow, Bool.or_eq_false_iff, Bool.and_eq_false_iff, decide_eq_false_iff_not] at hw
  omega

/-- A change that writes only the blocks that `w` permits, and of the others only what every command may change. -/
structure Leaves (w : Writes) (s t : State) : Prop where
  pending : t.pending = s.pending
  regions : w.regions = false → t.regions = s.regions
  regs : w.regs = false → t.regs = s.regs
  clock : w.clock = false → t.clock = s.clock
  pins : w.pins = false → t.pins = s.pins
  faults : w.faults = false → t.faults = s.faults
  mode : w.mode = false → t.mode = s.mode
  enables : w.enables = false → t.irq.enables = s.irq.enables
  ended : w.ended = false → t.port.lateCount = s.port.lateCount ∧ t.store.drainedLines = s.store.drainedLines
  latches : w.latches = false → (s.irq.lost = true → t.irq.lost = true) ∧ (s.irq.safe = true → t.irq.safe = true) ∧
    (s.irq.clearDone = true → t.irq.clearDone = true)
  lines : w.lines = false → LinesStay s.store t.store
  rise : w.rise = false → t.awaitRise = s.awaitRise ∧ (w.mgmt = false → t.mgmt = s.mgmt)
  bank : ∀ b : BankNo, RecordLeft w s.banks[b] t.banks[b]
  flush : w.flush = false → ∀ b : BankNo, (t.causes[b]).flush = (s.causes[b]).flush
  warn : w.warn = false → ∀ b : BankNo, (t.causes[b]).warn = (s.causes[b]).warn
  clear : w.clear = false → s.clear.queue <+: t.clear.queue ∧
    (s.clear.queue ≠ [] → t.clear.cursor = s.clear.cursor ∧ t.clear.incomplete = s.clear.incomplete)
  inFlight : w.inFlight = false → ∀ op, s.port.inFlight = some op → t.port.inFlight = some op
  requests : w.requests = false → (t.queue.map Entry.request).Sublist (s.queue.map Entry.request)

/-- A bank that is not STUCK may leave its state without the permission to leave STUCK. -/
def MayMove (w : Writes) (s : State) (b : BankNo) : Prop := w.stuck = false → (s.bankState b).isStuck = false

namespace Leaves

variable {w : Writes} {s t u : State}

theorem refl (w : Writes) (s : State) : Leaves w s s where
  pending := rfl
  regions := fun _ => rfl
  regs := fun _ => rfl
  clock := fun _ => rfl
  pins := fun _ => rfl
  faults := fun _ => rfl
  mode := fun _ => rfl
  enables := fun _ => rfl
  ended := fun _ => ⟨rfl, rfl⟩
  latches := fun _ => ⟨id, id, id⟩
  lines := fun _ => .refl _
  rise := fun _ => ⟨rfl, fun _ => rfl⟩
  bank := fun _ => .refl _ _
  flush := fun _ _ => rfl
  warn := fun _ _ => rfl
  clear := fun _ => ⟨List.prefix_rfl, fun _ => ⟨rfl, rfl⟩⟩
  inFlight := fun _ _ h => h
  requests := fun _ => List.Sublist.refl _

theorem trans (h : Leaves w s t) (h' : Leaves w t u) : Leaves w s u where
  pending := h'.pending.trans h.pending
  regions := fun hw => (h'.regions hw).trans (h.regions hw)
  regs := fun hw => (h'.regs hw).trans (h.regs hw)
  clock := fun hw => (h'.clock hw).trans (h.clock hw)
  pins := fun hw => (h'.pins hw).trans (h.pins hw)
  faults := fun hw => (h'.faults hw).trans (h.faults hw)
  mode := fun hw => (h'.mode hw).trans (h.mode hw)
  enables := fun hw => (h'.enables hw).trans (h.enables hw)
  ended := fun hw => ⟨(h'.ended hw).1.trans (h.ended hw).1, (h'.ended hw).2.trans (h.ended hw).2⟩
  latches := fun hw => by
    obtain ⟨lost, safe, clearDone⟩ := h.latches hw
    obtain ⟨lost', safe', clearDone'⟩ := h'.latches hw
    exact ⟨lost' ∘ lost, safe' ∘ safe, clearDone' ∘ clearDone⟩
  lines := fun hw => (h.lines hw).trans (h'.lines hw)
  rise := fun hw => by
    obtain ⟨rise, mgmt⟩ := h.rise hw
    obtain ⟨rise', mgmt'⟩ := h'.rise hw
    exact ⟨rise'.trans rise, fun hm => (mgmt' hm).trans (mgmt hm)⟩
  bank := fun b => (h.bank b).trans (h'.bank b)
  flush := fun hw b => (h'.flush hw b).trans (h.flush hw b)
  warn := fun hw b => (h'.warn hw b).trans (h.warn hw b)
  clear := fun hw => by
    obtain ⟨queue, head⟩ := h.clear hw
    obtain ⟨queue', head'⟩ := h'.clear hw
    refine ⟨queue.trans queue', fun hne => ?_⟩
    obtain ⟨cursor, incomplete⟩ := head hne
    obtain ⟨cursor', incomplete'⟩ := head' fun e => hne (List.prefix_nil.mp (e ▸ queue))
    exact ⟨cursor'.trans cursor, incomplete'.trans incomplete⟩
  inFlight := fun hw op hop => h'.inFlight hw op (h.inFlight hw op hop)
  requests := fun hw => (h'.requests hw).trans (h.requests hw)

theorem foldl {α : Type} {f : State → α → State} (hf : ∀ v a, Leaves w v (f v a)) (l : List α) :
    ∀ v, Leaves w v (l.foldl f v) := by
  induction l with
  | nil => exact refl w
  | cons a l ih => exact fun v => (hf v a).trans (ih _)

/-! ## One block -/

theorem setRegs (h : w.regs = true) (regs : Registers) : Leaves w s { s with regs := regs } :=
  { refl w s with regs := permitted h }

theorem setPins (h : w.pins = true) (pins : Pins) : Leaves w s { s with pins := pins } :=
  { refl w s with pins := permitted h }

theorem setFaults (h : w.faults = true) (faults : FaultLog) : Leaves w s { s with faults := faults } :=
  { refl w s with faults := permitted h }

theorem setMode (h : w.mode = true) (mode : WarnMode) : Leaves w s { s with mode := mode } :=
  { refl w s with mode := permitted h }

theorem setClear (h : w.clear = true) (clear : ClearEngine) : Leaves w s { s with clear := clear } :=
  { refl w s with clear := permitted h }

theorem setStore {st : LineStore} (hl : w.lines = false → LinesStay s.store st)
    (he : w.ended = false → st.drainedLines = s.store.drainedLines) : Leaves w s { s with store := st } :=
  { refl w s with lines := hl, ended := fun hw => ⟨rfl, he hw⟩ }

theorem setBank {b : BankNo} {f : BankRecord → BankRecord} (h : RecordLeft w s.banks[b] (f s.banks[b])) :
    Leaves w s (s.setBank b f) :=
  { refl w s with
    bank := fun c => by
      by_cases e : b = c
      · subst e
        rw [State.setBank_same]
        exact h
      · rw [State.setBank_other s f e]
        exact .refl _ _ }

/-- A record that changes in what no statement asks for, its timers and its pending wake. -/
theorem setBank_kept {b : BankNo} {f : BankRecord → BankRecord} (h : (f s.banks[b]).reported = s.banks[b].reported ∧
    (f s.banks[b]).settled = s.banks[b].settled ∧ (f s.banks[b]).state = s.banks[b].state ∧
    (f s.banks[b]).lost = s.banks[b].lost ∧ (f s.banks[b]).wakeCount = s.banks[b].wakeCount) :
    Leaves w s (s.setBank b f) := by
  obtain ⟨reported, settled, state, lost, wakes⟩ := h
  exact setBank
    { levels := fun _ => ⟨reported, settled⟩, stuck := fun _ _ => state, lost := fun _ hl => lost.trans hl
      wakes := fun _ => wakes ▸ BitVec.le_refl _ }

/-! ## The end of an event -/

theorem of_eventEnd (h : EventEnd s t) : Leaves w s t where
  pending := h.pending
  regions := fun _ => h.regions
  regs := fun _ => h.regs
  clock := fun _ => h.clock
  pins := fun _ => h.pins
  faults := fun _ => h.faults
  mode := fun _ => h.mode
  enables := fun _ => h.enables
  ended := fun _ => ⟨h.lateCount, h.drainedLines⟩
  latches := fun _ => ⟨h.lostFlag, h.safeFlag, fun hd => h.clearDone.trans hd⟩
  lines := fun _ i l hl => by
    obtain ⟨l', hl', kept⟩ := h.slots i l hl
    exact ⟨l', hl', kept.addr, kept.valid⟩
  rise := fun _ => ⟨h.awaitRise, fun _ => h.mgmt⟩
  bank := fun b =>
    { levels := fun _ => ⟨(h.bank b).reported, (h.bank b).settled⟩
      stuck := fun _ hk => by
        obtain ⟨o, ho⟩ : ∃ o, s.banks[b].state = .stuck o := by
          cases hb : s.banks[b].state with
          | stuck o => exact ⟨o, rfl⟩
          | _ => rw [hb] at hk; cases hk
        rw [(h.bank b).stays (by rw [ho]; rfl)]
      lost := fun _ => (h.bank b).lost
      wakes := fun _ => (h.bank b).wakes }
  flush := fun _ b => (h.orders b).1
  warn := fun _ b => (h.orders b).2
  clear := fun _ => ⟨h.clearQueue, h.cursor⟩
  inFlight := fun _ op hop => by rw [h.port (.inr (by rw [hop]; exact nofun))]; exact hop
  requests := fun _ => h.requests

theorem of_steps (h : EndSteps s t) : Leaves w s t := of_eventEnd (eventEnd_steps h)

theorem finish (h : Leaves w s u) (pre : State) (released : Bool) : Leaves w s (u.finish pre released) :=
  h.trans (of_eventEnd (finish_eventEnd u pre released))

theorem finishCompletion (h : Leaves w s u) (pre : State) (released : Bool) :
    Leaves w s (u.finishCompletion pre released) :=
  h.trans (of_eventEnd (finishCompletion_eventEnd u pre released))

/-! ## Power transitions -/

theorem mayMove_of_state {b : BankNo} {st : BankState} (h : s.bankState b = st) (hs : st.isStuck = false) :
    MayMove w s b := fun _ => by rw [h]; exact hs

theorem rest_mayMove {b : BankNo} {o : Rest} (h : s.bankState b = o.state) : MayMove w s b :=
  mayMove_of_state h (by cases o <;> rfl)

/-- A bank that wakes from OFF has lost its contents, and the LOST cause is latched (R81). -/
def wokenLost (s : State) (b : BankNo) : State :=
  { s.setBank b (fun k => { k with lost := true }) with irq := { s.irq with lost := true } }

theorem wokenLost_leaves (s : State) (b : BankNo) : Leaves w s (wokenLost s b) := by
  have lost : Leaves w s (s.setBank b fun k => { k with lost := true }) :=
    setBank { RecordLeft.refl w s.banks[b] with lost := fun _ _ => rfl }
  exact lost.trans { refl w _ with latches := fun _ => ⟨fun _ => rfl, id, id⟩ }

theorem wokenLost_bankState (s : State) (b : BankNo) : (wokenLost s b).bankState b = s.bankState b := by
  simp only [wokenLost, State.bankState, State.setBank, updAt_self]

section
variable {b : BankNo} (hb : MayMove w s b)
include hb

/-- A bank that may move takes another state. -/
theorem moved {st : BankState} : w.stuck = false → s.banks[b].state.isStuck = true → st = s.banks[b].state :=
  fun hw hk => nomatch (hb hw).symm.trans hk

theorem setBank_moved {f : BankRecord → BankRecord} (h : (f s.banks[b]).reported = s.banks[b].reported ∧
    (f s.banks[b]).settled = s.banks[b].settled ∧ (f s.banks[b]).lost = s.banks[b].lost ∧
    (f s.banks[b]).wakeCount = s.banks[b].wakeCount) : Leaves w s (s.setBank b f) := by
  obtain ⟨reported, settled, lost, wakes⟩ := h
  exact setBank
    { levels := fun _ => ⟨reported, settled⟩, stuck := moved hb, lost := fun _ hl => lost.trans hl
      wakes := fun _ => wakes ▸ BitVec.le_refl _ }

theorem requestLevel (level : Level) (st : BankState) : Leaves w s (s.requestLevel b level st) :=
  setBank_moved hb ⟨rfl, rfl, rfl, rfl⟩

theorem enterClearing (o : Rest) : Leaves w s (s.enterClearing b o) := by
  have entered : Leaves w s (s.setBank b fun k =>
      { k with state := .clearing o, settleTimer := .stopped, idleTimer := .stopped }) :=
    setBank_moved hb ⟨rfl, rfl, rfl, rfl⟩
  refine entered.trans { refl w _ with clear := fun _ => ⟨List.prefix_append _ _, fun hne => ?_⟩ }
  have hqueue : s.clear.queue.isEmpty = false := by simpa using hne
  simp [State.enterClearing, hqueue]

theorem settleWaking (o : Rest) : Leaves w s (s.settleWaking b o) := by
  unfold State.settleWaking
  cases o with
  | retain =>
    dsimp only
    split
    · exact enterClearing hb .retain
    · exact setBank_moved hb ⟨rfl, rfl, rfl, rfl⟩
  | off =>
    have lost : Leaves w s (wokenLost s b) := wokenLost_leaves s b
    have may : MayMove w (wokenLost s b) b := fun hw => wokenLost_bankState s b ▸ hb hw
    dsimp only
    split
    · exact lost.trans (enterClearing may .off)
    · exact lost.trans (setBank_moved may ⟨rfl, rfl, rfl, rfl⟩)

theorem wake (o : Rest) : Leaves w s (s.wake b o) := by
  have raised : Leaves w s ((s.requestLevel b .active (.waking o)).setBank b fun k =>
      { k with wakeCount := satInc k.wakeCount }) :=
    (requestLevel hb .active (.waking o)).trans (setBank { RecordLeft.refl w _ with wakes := fun _ => le_satInc _ })
  unfold State.wake
  dsimp only
  split
  · refine raised.trans (settleWaking (mayMove_of_state (st := .waking o) ?_ rfl) o)
    simp only [State.bankState, State.requestLevel, State.setBank, updAt_self]
  · exact raised

theorem settleDescending (o : Rest) : Leaves w s (s.settleDescending b o) := by
  have entered : Leaves w s (s.setBank b fun k =>
      { k with state := o.state, settleTimer := .stopped, pendingWake := false }) :=
    setBank_moved hb ⟨rfl, rfl, rfl, rfl⟩
  unfold State.settleDescending
  dsimp only
  split
  · refine entered.trans (wake (rest_mayMove (o := o) ?_) o)
    simp only [State.bankState, State.setBank, updAt_self]
  · exact entered

theorem descend (o : Rest) : Leaves w s (s.descend b o) := by
  have lowered : Leaves w s (s.requestLevel b o.level (.descending o)) := requestLevel hb _ _
  unfold State.descend
  dsimp only
  split
  · refine lowered.trans (settleDescending (mayMove_of_state (st := .descending o) ?_ rfl) o)
    simp only [State.bankState, State.requestLevel, State.setBank, updAt_self]
  · exact lowered

end

/-! ## The sets of causes and the mode -/

theorem setCauses {b : BankNo} {f : DrainCauses → DrainCauses} (hf : w.flush = false → ∀ c, (f c).flush = c.flush)
    (hw : w.warn = false → ∀ c, (f c).warn = c.warn) : Leaves w s (s.setCauses b f) := by
  have other : ∀ c : BankNo, b ≠ c → (s.setCauses b f).causes[c] = s.causes[c] := fun c e => updAt_ne _ _ e
  have same : (s.setCauses b f).causes[b] = f s.causes[b] := updAt_self _ _ _
  refine { refl w s with flush := fun h c => ?_, warn := fun h c => ?_ }
  · by_cases e : b = c
    · subst e
      rw [same, hf h]
    · rw [other c e]
  · by_cases e : b = c
    · subst e
      rw [same, hw h]
    · rw [other c e]

theorem addCause {b : BankNo} {f : DrainCauses → DrainCauses} (hf : w.flush = false → ∀ c, (f c).flush = c.flush)
    (hw : w.warn = false → ∀ c, (f c).warn = c.warn) : Leaves w s (s.addCause b f) := by
  unfold State.addCause
  split
  · exact .refl _ _
  · split
    · exact setCauses hf hw
    · exact (setCauses hf hw).trans (of_steps (State.demand_steps _ b))

theorem addAge (b : BankNo) : Leaves w s (s.addCause b fun c => { c with age := true }) :=
  addCause (fun _ _ => rfl) fun _ _ => rfl

theorem flushBank (hf : w.flush = true) (b : BankNo) : Leaves w s (s.flushBank b) :=
  addCause (permitted hf) fun _ _ => rfl

theorem flushEvery (hf : w.flush = true) : Leaves w s s.flushEvery := by
  unfold State.flushEvery
  refine foldl (fun v b => ?_) _ s
  split
  · exact flushBank hf b
  · exact .refl _ _

theorem enterWarn (hm : w.mode = true) (hw : w.warn = true) : Leaves w s s.enterWarn := by
  have joined : ∀ (v : State) (b : BankNo), Leaves w v (v.addCause b fun c => { c with warn := true }) := fun _ _ =>
    addCause (fun _ _ => rfl) (permitted hw)
  unfold State.enterWarn
  exact (setMode hm .warn).trans (foldl joined _ _)

theorem leaveWarn (hm : w.mode = true) : Leaves w s s.leaveWarn := by
  unfold State.leaveWarn
  split
  · exact setMode hm _
  · exact .refl w s

theorem afterFreeing (hm : w.mode = true) (hf : w.flush = true) (hw : w.warn = true) (b : BankNo) :
    Leaves w s (s.afterFreeing b) := by
  have emptied : Leaves w s (if s.lineCount b = 0 then s.setCauses b fun _ => DrainCauses.none else s) := by
    split
    · exact setCauses (permitted hf) (permitted hw)
    · exact .refl _ _
  unfold State.afterFreeing
  generalize (if s.lineCount b = 0 then s.setCauses b fun _ => DrainCauses.none else s) = u at emptied
  dsimp only
  split
  · exact emptied.trans (setMode hm _)
  · exact emptied

/-! ## The Fault Log and STUCK -/

theorem handFault (hf : w.faults = true) (rep : FaultReport) : Leaves w s (s.handFault rep) := by
  unfold State.handFault
  dsimp only
  split <;> exact setFaults hf _

theorem judgeHold (hf : w.faults = true) (b : BankNo) : Leaves w s (s.judgeHold b) := by
  unfold State.judgeHold
  split
  · exact .refl w s
  · exact setFaults hf _

theorem removeHead (hf : w.faults = true) : Leaves w s s.removeHead := by
  unfold State.removeHead
  split
  · exact .refl _ _
  · exact (setFaults hf _).trans (judgeHold hf _)

theorem clearUnlogged (hf : w.faults = true) (b : BankNo) : Leaves w s (s.clearUnlogged b) := by
  unfold State.clearUnlogged
  dsimp only
  exact (setFaults hf _).trans (judgeHold hf b)

theorem abandonClear (hc : w.clear = true) (b : BankNo) : Leaves w s (s.abandonClear b) := by
  unfold State.abandonClear
  dsimp only
  split <;> exact setClear hc _

theorem markFailed (b : BankNo) : Leaves w s (s.markFailed b) := by
  have same : (s.markFailed b).queue.map Entry.request = s.queue.map Entry.request := by
    rw [State.markFailed, List.map_map]
    refine List.map_congr_left fun e _ => ?_
    dsimp only [Function.comp]
    split <;> rfl
  exact { refl w s with requests := fun _ => same ▸ List.Sublist.refl _ }

theorem makeStuck (hc : w.clear = true) (b : BankNo) : Leaves w s (s.makeStuck b) := by
  unfold State.makeStuck
  split
  next h =>
    have may : MayMove w s b := fun _ => by
      obtain ⟨-, hs⟩ := Bool.and_eq_true_iff.mp h
      simpa using hs
    have stopped : Leaves w s (s.setBank b fun k => { k with
        state := .stuck k.state.stuckOrigin, settleTimer := .stopped, idleTimer := .stopped, offTimer := .stopped
        pendingWake := false }) := setBank_moved may ⟨rfl, rfl, rfl, rfl⟩
    have withdrawn : ∀ v : State, Leaves w v (v.setCauses b fun c => { c with pressure := false }) := fun _ =>
      setCauses (fun _ _ => rfl) fun _ _ => rfl
    exact ((stopped.trans (abandonClear hc b)).trans (withdrawn _)).trans (markFailed b)
  · exact .refl _ _

theorem failBank (hc : w.clear = true) (hf : w.faults = true) (b : BankNo) (kind : FaultKind) :
    Leaves w s (s.failBank b kind) := (makeStuck hc b).trans (handFault hf _)

theorem sampleLines (hl : w.levels = true) (b : BankNo) : Leaves w s (s.sampleLines b) :=
  setBank { RecordLeft.refl w s.banks[b] with levels := permitted hl }

theorem sampleAtRest (hl : w.levels = true) (hc : w.clear = true) (hf : w.faults = true) (b : BankNo) :
    Leaves w s (s.sampleAtRest b) := by
  unfold State.sampleAtRest
  dsimp only
  split
  · exact sampleLines hl b
  · exact (sampleLines hl b).trans (failBank hc hf b _)

/-! ## The operations of the commands -/

theorem takeRequest (hr : w.requests = true) (r : Request) : Leaves w s (s.takeRequest r) := by
  have entered : ∀ st, Leaves w s (s.appendEntry r st) := fun _ => { refl w s with requests := permitted hr }
  have judged := s.judge_justified r
  unfold State.takeRequest
  split
  · unfold State.firstEvaluation
    dsimp only
    split
    · exact (entered _).trans (of_steps (State.perform_steps _ r _ judged))
    · exact of_steps (State.perform_steps s r _ judged)
  · exact entered _

theorem endOperation (hi : w.inFlight = true) (b : BankNo) : Leaves w s (s.endOperation b) := by
  have freed : Leaves w s { s with port := { s.port with inFlight := none } } :=
    { refl w s with inFlight := permitted hi }
  exact freed.trans (setBank_kept ⟨rfl, rfl, rfl, rfl, rfl⟩)

theorem routeWord (report : Report) (data : Vector Word 8) : Leaves w s (s.routeWord report data) := by
  unfold State.routeWord
  split
  · exact .refl _ _
  · split
    · exact .refl _ _
    · split <;> exact of_steps (State.answerEntry_steps ..)

theorem tellTimeout (op : InFlight) : Leaves w s (s.tellTimeout op) := by
  have requests := tellTimeout_requests s op
  unfold State.tellTimeout at *
  split at *
  · exact { refl w s with requests := fun _ => requests ▸ List.Sublist.refl _ }
  · split
    · exact setStore (fun _ => .onLine fun _ => ⟨rfl, fun _ hv => hv⟩) fun _ => rfl
    · exact .refl _ _
  · exact .refl _ _

/-- A completion of a LINE WRITE frees its slot, renews it, or does nothing (R12 to R14). -/
theorem routeLine (hm : w.mode = true) (hflush : w.flush = true) (hwarn : w.warn = true) (hf : w.faults = true)
    (hl : w.lines = true) (he : w.ended = true) (i : SlotNo) (report : Report) : Leaves w s (s.routeLine i report) := by
  unfold State.routeLine
  split
  · exact .refl _ _
  · split
    · exact .refl _ _
    · exact (setStore (permitted hl) (permitted he)).trans (afterFreeing hm hflush hwarn _)
    · exact setStore (permitted hl) (permitted he)
    · exact ((handFault hf _).trans (setStore (permitted hl) (permitted he))).trans (afterFreeing hm hflush hwarn _)

/-- What the end of a bank's clear does: the bank, which is not STUCK, may lose its LOST flag (R150). -/
theorem advanceClear {b : BankNo} (hb : MayMove w s b) (hc : w.clear = true) (hl : w.lost = true) :
    Leaves w s (s.advanceClear b) := by
  have entered : Leaves w s (s.setBank b fun k => { k with state := .active, lost := s.clear.incomplete && k.lost }) :=
    setBank { RecordLeft.refl w s.banks[b] with stuck := moved hb, lost := permitted hl }
  unfold State.advanceClear
  split
  · exact setClear hc _
  · exact entered.trans { refl w _ with clear := permitted hc, latches := fun _ => ⟨id, id, fun _ => rfl⟩ }

theorem clearFailed (hf : w.faults = true) (hc : w.clear = true) (b : BankNo) : Leaves w s (s.clearFailed b) :=
  (handFault hf _).trans (setClear hc _)

theorem routeZero (hf : w.faults = true) (hc : w.clear = true) (hl : w.lost = true)
    (hb : ∀ b, s.clear.queue.head? = some b → MayMove w s b) (report : Report) : Leaves w s (s.routeZero report) := by
  unfold State.routeZero
  split
  · split
    · exact .refl _ _
    next b hhead =>
      have may := hb b hhead
      have idle : ∀ v : State, Leaves w v { v with clear := { v.clear with outstanding := false } } := fun _ =>
        setClear hc _
      cases report with
      | ok => exact (idle s).trans (advanceClear may hc hl)
      | error =>
        have failed : Leaves w s (s.clearFailed b) := clearFailed hf hc b
        have same : (s.clearFailed b).bankState b = s.bankState b := by
          simp only [State.bankState, State.clearFailed, State.handFault_banks]
        have may' : MayMove w (s.clearFailed b) b := fun hw => same ▸ may hw
        exact (failed.trans (idle _)).trans (advanceClear may' hc hl)
  · exact .refl _ _

theorem discardBank (hm : w.mode = true) (hflush : w.flush = true) (hwarn : w.warn = true) (hf : w.faults = true)
    (hl : w.lines = true) (hs : w.stuck = true) (b : BankNo) : Leaves w s (s.discardBank b) := by
  have freed : Leaves w s { s with store := s.store.discard b } :=
    setStore (permitted hl) fun _ => by rw [LineStore.discard]
  have lost : ∀ v : State, Leaves w v (v.setBank b fun k => { k with lost := true }) := fun _ =>
    setBank { RecordLeft.refl w _ with lost := fun _ _ => rfl }
  rw [discardBank_eq]
  exact (((freed.trans (afterFreeing hm hflush hwarn b)).trans (handFault hf _)).trans (lost _)).trans
    (descend (permitted hs) .off)

theorem setTickDiv (hr : w.regs = true) (hc : w.clock = true) (v : BitVec 16) : Leaves w s (s.setTickDiv v) :=
  { refl w s with regs := permitted hr, clock := permitted hc }

theorem refit (hr : w.regs = true) (hl : w.levels = true) (hs : w.stuck = true) (hw : w.wakes = true)
    (hc : w.clear = true) (hf : w.faults = true) (v : BitVec 16) : Leaves w s (s.refit v) := by
  have fitted : ∀ (old new : Nat) (u : State) (b : BankNo), Leaves w u (State.fitBank old new u b) := by
    intro old new u b
    have reset : Leaves w u (u.setBank b fun _ => BankRecord.reset) :=
      setBank { levels := permitted hl, stuck := permitted hs, lost := fun _ _ => rfl, wakes := permitted hw }
    unfold State.fitBank
    split
    · exact reset.trans (sampleAtRest hl hc hf b)
    · exact .refl _ _
  unfold State.refit
  exact (setRegs hr _).trans (foldl (fitted _ _) _ _)

theorem captureLow (hr : w.regs = true) (r : Register) : Leaves w s (s.captureLow r) := by
  cases r <;> exact { refl w s with regs := permitted hr }

theorem policy (hr : w.regs = true) (b : BankNo) (f : Policy → Policy) :
    Leaves w s ((s.setPolicy b f).refreshTimersOf b) :=
  (setRegs hr _).trans (setBank_kept ⟨rfl, rfl, rfl, rfl, rfl⟩)

theorem milliStep (hc : w.clock = true) : Leaves w s s.milliStep := by
  have aged : LinesStay s.store s.store.ageAll :=
    .of_map (f := fun _ => LineStore.agedLine)
      (fun _ l => ⟨State.agedLine_addr l, fun n hv => by rwa [State.agedLine_bytes]⟩) s.store.ageAll_slot
  have counted : ∀ v : State, Leaves w v v.tenMilliStep := fun v =>
    { refl w v with
      bank := fun b => by
        rw [State.tenMilliStep, State.countBanks, mapAll_self]
        exact { RecordLeft.refl w v.banks[b] with stuck := fun _ _ => rfl } }
  have timed : ∀ (v : State) (clock : Timebase), Leaves w v { v with clock := clock } := fun v _ =>
    { refl w v with clock := permitted hc }
  have stored : Leaves w s { s with store := s.store.ageAll } :=
    setStore (fun _ => aged) fun _ => by rw [LineStore.ageAll]
  have older : ∀ clock, Leaves w s { s with store := s.store.ageAll, clock := clock } := fun clock =>
    stored.trans (timed _ clock)
  unfold State.milliStep
  dsimp only
  split
  · exact older _
  · exact (older _).trans (counted _)

/-- A warm reset moves a CLEARING bank alone (R97). -/
theorem warmRecord_left (limit : Nat) (k : BankRecord) : RecordLeft w k (State.warmRecord limit k) := by
  unfold State.warmRecord
  split
  next hk => exact { RecordLeft.refl w k with stuck := fun _ hs => by rw [hk] at hs; cases hs }
  all_goals exact { RecordLeft.refl w k with stuck := fun _ _ => rfl }

theorem warmReset (hr : w.regs = true) (hc : w.clear = true) (hi : w.inFlight = true) : Leaves w s s.warmReset := by
  have lines : LinesStay s.store s.store.returnAllHeld :=
    .of_map (fun _ => LineStore.heldLine_keeps) s.store.returnAllHeld_slot
  have drained : s.store.returnAllHeld.drainedLines = s.store.drainedLines := by rw [LineStore.returnAllHeld]
  unfold State.warmReset
  generalize s.store.returnAllHeld = st at lines drained
  exact
    { refl w s with
      regs := permitted hr, clear := permitted hc, inFlight := permitted hi, lines := fun _ => lines
      ended := fun _ => ⟨rfl, drained⟩
      bank := fun b => by
        rw [mapAll_self]
        exact warmRecord_left _ _
      requests := fun _ => List.nil_sublist _ }

/-! ## Replies -/

theorem reply (hm : w.mgmt = true) (n : Nat) (status : MgmtStatus) (results : List Byte) :
    Leaves w s (s.reply n status results) :=
  { refl w s with rise := fun _ => ⟨rfl, permitted hm⟩ }

theorem replied (hm : w.mgmt = true) (h : Leaves w s u) (n : Nat) (status : MgmtStatus) (results : List Byte) :
    Leaves w s (u.reply n status results) := h.trans (reply hm ..)

theorem accept (hm : w.mgmt = true) (h : Leaves w s u) : Leaves w s (s.accept u) :=
  replied hm (h.finish s false) ..

theorem writeInRange (hm : w.mgmt = true) {c : Bool} {effect : State → State} (h : Leaves w s (effect s)) :
    Leaves w s (s.writeInRange c effect) := by
  unfold State.writeInRange
  split
  · exact replied hm h ..
  · exact reply hm ..

/-! ## The commands -/

section
variable (s)

theorem requestTaken (hr : w.requests = true) (r : Request) : Yields (Leaves w s) (execRequestTaken r s) := by
  unfold execRequestTaken
  split
  · exact .cond (fun _ => .next ((takeRequest hr r).finish s false)) fun _ => .next (.refl _ _)
  · exact .fault _

theorem accessTimeout (hi : w.inFlight = true) (hc : w.clear = true) (hf : w.faults = true) :
    Yields (Leaves w s) (execAccessTimeout s) := by
  unfold execAccessTimeout
  split
  next op _ =>
    have told : Leaves w s ((s.endOperation op.bank).tellTimeout op) := (endOperation hi op.bank).trans (tellTimeout op)
    exact .next (((told.trans (makeStuck hc op.bank)).trans (handFault hf _)).finish s _)
  · exact .next (.refl _ _)

theorem statusLineChange (hp : w.pins = true) (hl : w.levels = true) (hc : w.clear = true) (hf : w.faults = true)
    (b : BankNo) (level : StatusLevel) (settled : Bool) : Yields (Leaves w s) (execStatusLineChange b level settled s) := by
  have driven : Leaves w s (s.drive b level settled) := setPins hp _
  refine .cond (fun _ => .next (driven.trans ?_)) fun _ => .next driven
  generalize s.drive b level settled = u
  have sampled : Leaves w u (u.sampleLines b) := sampleLines hl b
  have same : (u.sampleLines b).bankState b = u.bankState b := by
    simp only [State.bankState, State.sampleLines, State.setBank, updAt_self]
  have settledChange : Leaves w u (u.settledChange s b) := by
    unfold State.settledChange
    split
    · exact (sampled.trans (failBank hc hf b _)).finish s false
    · exact sampled
  unfold State.lineChange
  dsimp only
  split
  next o hb =>
    split
    · exact (sampled.trans (settleWaking (mayMove_of_state (same.trans hb) rfl) o)).finish s false
    · exact sampled
  next o hb =>
    split
    · exact (sampled.trans (settleDescending (mayMove_of_state (same.trans hb) rfl) o)).finish s false
    · exact sampled
  · exact sampled
  all_goals exact settledChange

theorem faultPopRemoval (hf : w.faults = true) (shifted : Nat) :
    Yields (Leaves w s.endFrame) (execFaultPopRemoval shifted s) := by
  unfold execFaultPopRemoval
  split
  · exact .next (.refl _ _)
  · exact .cond (fun _ => .next ((removeHead hf).finish s false)) fun _ => .next (.refl _ _)

theorem writeConfig (hm : w.mgmt = true) (hr : w.regs = true) (hk : w.clock = true) (hl : w.levels = true)
    (hs : w.stuck = true) (hw : w.wakes = true) (hc : w.clear = true) (hf : w.faults = true) (v : BitVec 16) :
    Leaves w s (s.writeConfig v) := by
  have ticks : Leaves w s (s.setTickDiv v) := setTickDiv hr hk v
  unfold State.writeConfig
  split
  · split
    · exact replied hm ticks ..
    · split
      · exact replied hm ((ticks.trans (refit hr hl hs hw hc hf v)).finish s false) ..
      · exact reply hm ..
  · exact reply hm ..

end

/-! ## The bank orders and the frames -/

section
variable (hm : w.mgmt = true)
include hm

theorem order {bank : Byte} {action : BankNo → State} (h : ∀ b, Leaves w s (action b)) :
    Yields (Leaves w s) (s.onFrame (.next (s.order bank action))) := by
  refine .onFrame (.refl _ _) (.next ?_)
  unfold State.order
  split
  · exact reply hm ..
  next b _ =>
    split
    · exact h b
    · exact reply hm ..

theorem orderWake (b : BankNo) : Leaves w s (s.orderWake b) := by
  unfold State.orderWake
  split
  next hb => exact accept hm (wake (rest_mayMove (o := .off) hb) .off)
  next hb => exact accept hm (wake (rest_mayMove (o := .retain) hb) .retain)
  · exact replied hm (setBank_kept ⟨rfl, rfl, rfl, rfl, rfl⟩) ..
  · split
    · exact accept hm (setBank_kept ⟨rfl, rfl, rfl, rfl, rfl⟩)
    · exact reply hm ..
  all_goals exact reply hm ..

theorem orderRetain (b : BankNo) : Leaves w s (s.orderRetain b) := by
  unfold State.orderRetain
  split
  · exact reply hm ..
  next hb =>
    split
    · exact reply hm ..
    · split
      · exact reply hm ..
      · exact accept hm (descend (mayMove_of_state (not_not.mp hb) rfl) .retain)

theorem orderOff (b : BankNo) : Leaves w s (s.orderOff b) := by
  unfold State.orderOff
  split
  next h =>
    obtain ⟨awake, -, -⟩ := h
    have may : MayMove w s b := fun _ => by rcases awake with hb | hb <;> rw [hb] <;> rfl
    split
    · exact reply hm ..
    · exact accept hm (descend may .off)
  · exact reply hm ..

theorem orderRetry (hs : w.stuck = true) (b : BankNo) : Leaves w s (s.orderRetry b) := by
  unfold State.orderRetry
  split
  · exact accept hm (wake (permitted hs) _)
  all_goals exact reply hm ..

theorem orderDiscard (hmode : w.mode = true) (hflush : w.flush = true) (hwarn : w.warn = true) (hf : w.faults = true)
    (hl : w.lines = true) (hs : w.stuck = true) (b : BankNo) : Leaves w s (s.orderDiscard b) := by
  unfold State.orderDiscard
  split
  · exact accept hm (discardBank hmode hflush hwarn hf hl hs b)
  · exact reply hm ..

theorem orderClear (b : BankNo) : Leaves w s (s.orderClear b) := by
  have pended : Leaves w s (s.setClearPending b true) :=
    { refl w s with clear := fun _ => ⟨List.prefix_rfl, fun _ => ⟨rfl, rfl⟩⟩ }
  have woken : ∀ o : Rest, s.bankState b = o.state → Leaves w s ((s.setClearPending b true).wake b o) := fun o hb =>
    pended.trans (wake (rest_mayMove (s := s.setClearPending b true) hb) o)
  unfold State.orderClear
  split
  · exact reply hm ..
  · split
    next hb => exact accept hm (enterClearing (mayMove_of_state hb rfl) .retain)
    next hb => exact accept hm (woken .off hb)
    next hb => exact accept hm (woken .retain hb)
    all_goals exact reply hm ..

theorem orderUnlost (hl : w.lost = true) (b : BankNo) : Leaves w s (s.orderUnlost b) := by
  unfold State.orderUnlost
  split
  · exact reply hm ..
  · exact replied hm (setBank { RecordLeft.refl w s.banks[b] with lost := permitted hl }) ..

theorem orderFlush (hf : w.flush = true) (b : BankNo) : Leaves w s (s.orderFlush b) := by
  have flushed : Leaves w s ((s.flushBank b).finish s false) := (flushBank hf b).finish s false
  unfold State.orderFlush
  split
  · exact reply hm ..
  · split
    · exact reply hm ..
    · exact replied hm flushed ..

theorem writeRegion (hr : w.regions = true) (g : Fin 8) (flags : Byte) (base limit : BitVec 24) (initiators : Byte) :
    Leaves w s (s.writeRegion g flags base limit initiators) := by
  have written : ∀ regions, Leaves w s { s with regions := regions } := fun _ =>
    { refl w s with regions := permitted hr }
  unfold State.writeRegion
  split
  · exact replied hm ((written _).finish s true) ..
  · exact reply hm ..

/-- A REG WRITE of a register without a row of its own writes a limit or nothing (Table 10-5). -/
theorem regWrite (hr : w.regs = true) {number : Byte} (hw : hasOwnWriteRow number = false) (v : BitVec 16) :
    Yields (Leaves w s) (execRegWrite number v s) := by
  refine .onFrame (.refl _ _) ?_
  cases hn : registerOf number with
  | none => exact .next (reply hm ..)
  | some r =>
    have numbered := register_plain hw hn
    cases r with
    | settleLimit | accessLimit => exact .next (writeInRange hm (setRegs hr _))
    | config | hwm | ageLimit | irqStatus | irqEnable | resetRecord => exact absurd numbered (by decide)
    | policyA b | policyB b =>
      have := b.isLt
      simp only [Register.number] at numbered
      omega
    | _ => exact .next (reply hm ..)

end

end Leaves

/-! ## What each command writes -/

/-- What a completion writes; whether a bank leaves STUCK is asked apart. -/
def completionWrites (stuck : Bool) : Writes :=
  { faults := true, mode := true, ended := true, lines := true, stuck := stuck, lost := true, flush := true, warn := true
    clear := true, inFlight := true }

/-- What a power-on reset writes: all but LOST, which is set in every bank, and the Hold Queue, which is emptied. -/
def powerOnWrites : Writes where
  regions := true
  regs := true
  clock := true
  pins := true
  faults := true
  mode := true
  enables := true
  ended := true
  latches := true
  lines := true
  rise := true
  mgmt := true
  levels := true
  stuck := true
  wakes := true
  flush := true
  warn := true
  clear := true
  inFlight := true

/-- What each command writes. -/
def writesOf : Instr → Writes
  | .requestTaken _ => { requests := true }
  | .completion _ _ _ => completionWrites true
  | .accessTimeout => { faults := true, clear := true, inFlight := true }
  | .settleTimeout _ => { faults := true, clear := true }
  | .statusLineChange _ _ _ => { pins := true, faults := true, levels := true, clear := true }
  | .idleTimerExpiry _ | .offTimerExpiry _ | .ageExpiry _ => {}
  | .supwarnAssertion => { pins := true, mode := true, warn := true }
  | .supwarnNegation => { pins := true, mode := true }
  | .fltpassAssertion | .fltpassNegation | .resetnNegation => { pins := true }
  | .resetnAssertion => { regs := true, pins := true, clear := true, inFlight := true }
  | .powerOnReset => powerOnWrites
  | .invalidCommand _ | .status | .regionRead _ | .slotRead _ | .faultPeek | .faultPop | .wakeOrder _ | .retainOrder _
  | .offOrder _ | .clearOrder _ => { mgmt := true }
  | .counterHighRead _ | .regWrite _ _ | .hwmWrite _ | .ageLimitWrite _ | .resetRecordWrite _ | .bankPolicyAWrite _ _
  | .bankPolicyBWrite _ _ => { mgmt := true, regs := true }
  | .configWrite _ =>
    { mgmt := true, regs := true, clock := true, faults := true, levels := true, stuck := true, wakes := true
      clear := true }
  | .irqStatusWrite _ => { mgmt := true, latches := true }
  | .irqEnableWrite _ => { mgmt := true, enables := true }
  | .regionWrite _ _ _ _ _ => { mgmt := true, regions := true }
  | .retryOrder _ => { mgmt := true, stuck := true }
  | .discardOrder _ =>
    { mgmt := true, faults := true, mode := true, lines := true, stuck := true, flush := true, warn := true }
  | .unlostOrder _ => { mgmt := true, lost := true }
  | .flush _ | .flushAll => { mgmt := true, flush := true }
  | .faultPopRemoval _ => { pins := true, faults := true, rise := true, mgmt := true }
  | .clearUnlogged _ => { mgmt := true, faults := true }
  | .millisecondCounterStep => { clock := true }

/-- The completion of an operation: a bank whose clear ends is CLEARING where the clear queue lists the CLEARING banks, so
that a STUCK bank stays STUCK (R143, R150). -/
theorem completion_leaves (stuck : Bool) {s : State} (hx : stuck = false → s.ClearQueueExact) (number : BitVec 8)
    (report : Report) (data : Vector Word 8) :
    Yields (Leaves (completionWrites stuck) s) (execCompletion number report data s) := by
  have late : Leaves (completionWrites stuck) s s.lateCompletion :=
    { Leaves.refl _ s with ended := permitted rfl }
  unfold execCompletion
  split
  next op _ =>
    refine .cond (fun _ => .next ?_) fun _ => .next late
    have ended : Leaves (completionWrites stuck) s (s.endOperation op.bank) := .endOperation rfl _
    refine (ended.trans ?_).finishCompletion s _
    unfold State.route
    split
    · exact .routeWord report data
    · exact .routeLine rfl rfl rfl rfl rfl rfl _ report
    · refine .routeZero rfl rfl rfl (fun b hb hs => ?_) report
      obtain ⟨-, listed⟩ := hx hs
      have clearing := (listed b).1 (List.mem_of_head? hb)
      rw [endOperation_bankState]
      cases hst : s.bankState b with
      | stuck o => rw [hst] at clearing; cases clearing
      | _ => rfl
  · exact .next late

theorem powerOnReset_leaves {s t : State} (h : exec .powerOnReset s = .next t) :
    Leaves powerOnWrites s t ∧ t.pins = { s.pins with mcsLow := s.pins.mcsLow || s.mgmt.isSome } := by
  obtain ⟨u, hu, -, -, -, queue, -, -, -, -, -, -, pins, -, pending, -, -, -, banks, -⟩ :=
    powerOnResetGivesThePowerOnValues.2 s
  obtain rfl : u = t := by injection hu.symm.trans h
  refine ⟨?_, pins⟩
  exact
    { pending := pending, regions := permitted rfl, regs := permitted rfl, clock := permitted rfl, pins := permitted rfl
      faults := permitted rfl, mode := permitted rfl, enables := permitted rfl, ended := permitted rfl
      latches := permitted rfl, lines := permitted rfl, rise := permitted rfl, flush := permitted rfl
      warn := permitted rfl, clear := permitted rfl, inFlight := permitted rfl
      requests := fun _ => by rw [queue]; exact List.nil_sublist _
      bank := fun b => by
        rw [banks b]
        exact { levels := permitted rfl, stuck := permitted rfl, lost := fun _ _ => rfl, wakes := permitted rfl } }

open Leaves in
/-- A well-formed command writes what `writesOf` says. -/
theorem exec_leaves {c : Instr} {s t : State} (hw : c.wellFormed = true) (h : exec c s = .next t) :
    Leaves (writesOf c) s t := by
  suffices hy : Yields (Leaves (writesOf c) s) (exec c s) from hy t h
  have same : ∀ {w : Writes}, Yields (Leaves w s) (.next s) := .next (.refl _ _)
  have framed : ∀ {w : Writes} {u : State}, Leaves w s u → Yields (Leaves w s) (s.onFrame (.next u)) := fun hu =>
    .onFrame (.refl _ _) (.next hu)
  cases c with
  | requestTaken r => exact Leaves.requestTaken s rfl r
  | completion number report data => exact completion_leaves true nofun number report data
  | accessTimeout => exact Leaves.accessTimeout s rfl rfl rfl
  | settleTimeout b => exact .cond (fun _ => .next (finish (failBank rfl rfl b _) s false)) fun _ => same
  | statusLineChange b level settled => exact Leaves.statusLineChange s rfl rfl rfl rfl b level settled
  | idleTimerExpiry b =>
    exact .cond (fun ⟨hb, _⟩ => .next (finish (descend (mayMove_of_state hb rfl) .retain) s false)) fun _ => same
  | offTimerExpiry b =>
    exact .cond (fun ⟨hb, _⟩ => .next (finish (descend (mayMove_of_state hb rfl) .off) s false)) fun _ => same
  | ageExpiry b => exact .cond (fun _ => .next (finish (addAge b) s false)) fun _ => same
  | supwarnAssertion =>
    have driven : Leaves (writesOf .supwarnAssertion) s (s.driveSupwarn true) := setPins rfl _
    exact .cond (fun _ => same) fun _ => .next ((driven.trans (enterWarn rfl rfl)).finish s false)
  | supwarnNegation =>
    have driven : Leaves (writesOf .supwarnNegation) s (s.driveSupwarn false) := setPins rfl _
    exact .cond (fun _ => .next ((driven.trans (leaveWarn rfl)).finish s false)) fun _ => same
  | fltpassAssertion => exact .cond (fun _ => same) fun _ => .next (finish (setPins rfl _) s true)
  | fltpassNegation => exact .cond (fun _ => .next (finish (setPins rfl _) s true)) fun _ => same
  | resetnAssertion =>
    have driven : Leaves (writesOf .resetnAssertion) s (s.driveResetn true) := setPins rfl _
    exact .cond (fun _ => same) fun _ => .next ((driven.trans (warmReset rfl rfl rfl)).finish s false)
  | resetnNegation => exact .cond (fun _ => .next (finish (setPins rfl _) s false)) fun _ => same
  | powerOnReset => exact fun t ht => (powerOnReset_leaves ht).1
  | invalidCommand frame => exact .cond (fun _ => framed (reply rfl ..)) fun hn => absurd hw hn
  | status => exact framed (reply rfl ..)
  | counterHighRead number =>
    refine .onFrame (.refl _ _) ?_
    split
    · exact .next (reply rfl ..)
    next r _ => exact .next (replied rfl (captureLow rfl r) ..)
  | regWrite number v => exact Leaves.regWrite rfl rfl (Bool.not_eq_true' _ ▸ hw) v
  | configWrite v => exact framed (writeConfig s rfl rfl rfl rfl rfl rfl rfl rfl v)
  | hwmWrite v => exact framed (writeInRange rfl (finish (setRegs rfl _) s false))
  | ageLimitWrite v => exact framed (writeInRange rfl (finish (setRegs rfl _) s false))
  | irqStatusWrite v => exact framed (writeInRange rfl { Leaves.refl _ s with latches := permitted rfl })
  | irqEnableWrite v => exact framed (writeInRange rfl { Leaves.refl _ s with enables := permitted rfl })
  | resetRecordWrite v => exact framed (writeInRange rfl (setRegs rfl _))
  | bankPolicyAWrite b v => exact framed (writeInRange rfl (policy rfl b _))
  | bankPolicyBWrite b v => exact framed (writeInRange rfl (policy rfl b _))
  | regionRead entry => exact .onFrame (.refl _ _) (by split <;> exact .next (reply rfl ..))
  | regionWrite entry flags base limit initiators =>
    refine .onFrame (.refl _ _) ?_
    split
    · exact .next (writeRegion rfl rfl ..)
    · exact .next (reply rfl ..)
  | slotRead slot => exact .onFrame (.refl _ _) (by split <;> exact .next (reply rfl ..))
  | wakeOrder bank => exact order rfl (orderWake rfl)
  | retainOrder bank => exact order rfl (orderRetain rfl)
  | offOrder bank => exact order rfl (orderOff rfl)
  | retryOrder bank => exact order rfl (orderRetry rfl rfl)
  | discardOrder bank => exact order rfl (orderDiscard rfl rfl rfl rfl rfl rfl rfl)
  | clearOrder bank => exact order rfl (orderClear rfl)
  | unlostOrder bank => exact order rfl (orderUnlost rfl rfl)
  | flush bank =>
    refine .onFrame (.refl _ _) ?_
    split
    · exact .next (reply rfl ..)
    · exact .next (orderFlush rfl rfl _)
  | flushAll => exact framed (replied rfl (finish (flushEvery rfl) s false) ..)
  | faultPeek => exact .onFrame (.refl _ _) (by split <;> exact .next (reply rfl ..))
  | faultPop =>
    refine .onFrame (.refl _ _) ?_
    split
    · exact .next (reply rfl ..)
    · exact .next { Leaves.refl _ s with rise := fun _ => ⟨rfl, permitted rfl⟩ }
  | faultPopRemoval shifted =>
    have risen : Leaves (writesOf (.faultPopRemoval shifted)) s s.endFrame :=
      { Leaves.refl _ s with pins := permitted rfl, rise := permitted rfl }
    exact fun t ht => risen.trans (Leaves.faultPopRemoval s rfl shifted t ht)
  | clearUnlogged bank =>
    refine .onFrame (.refl _ _) ?_
    split
    · exact .next (reply rfl ..)
    next b _ => exact .next (replied rfl (finish (Leaves.clearUnlogged rfl b) s false) ..)
  | millisecondCounterStep => exact .next (milliStep rfl)

/-! ## What reports leave as it stands -/

/-- The Hold Queue, the causes, the Clear Engine, the M port and the outputs stand. -/
def QueuesStand (s t : State) : Prop :=
  t.queue = s.queue ∧ t.causes = s.causes ∧ t.clear = s.clear ∧ t.port = s.port ∧ t.out = s.out

/-- So do the banks and the Line Store. -/
def BlocksStand (s t : State) : Prop :=
  t.banks = s.banks ∧ t.queue = s.queue ∧ t.causes = s.causes ∧ t.clear = s.clear ∧ t.port = s.port ∧ t.store = s.store ∧
    t.out = s.out

/-- The reports, and the writes of registers that no event waits on. -/
def isReport : Instr → Bool
  | .invalidCommand _ | .status | .counterHighRead _ | .regWrite _ _ | .irqStatusWrite _ | .irqEnableWrite _
  | .resetRecordWrite _ | .regionRead _ | .slotRead _ | .faultPeek | .faultPop => true
  | _ => false

/-- The commands that may write the banks or the Line Store and leave the queues: the writes of policies, UNLOST and the
step of the millisecond counter. -/
def leavesQueues : Instr → Bool
  | .bankPolicyAWrite _ _ | .bankPolicyBWrite _ _ | .unlostOrder _ | .millisecondCounterStep => true
  | _ => false

theorem BlocksStand.refl (s : State) : BlocksStand s s := ⟨rfl, rfl, rfl, rfl, rfl, rfl, rfl⟩

theorem QueuesStand.refl (s : State) : QueuesStand s s := ⟨rfl, rfl, rfl, rfl, rfl⟩

theorem BlocksStand.writeInRange {s : State} {c : Bool} {effect : State → State} (h : BlocksStand s (effect s)) :
    BlocksStand s (s.writeInRange c effect) := by
  unfold State.writeInRange
  split
  · exact h
  · exact .refl s

theorem QueuesStand.writeInRange {s : State} {c : Bool} {effect : State → State} (h : QueuesStand s (effect s)) :
    QueuesStand s (s.writeInRange c effect) := by
  unfold State.writeInRange
  split
  · exact h
  · exact .refl s

theorem regWrite_stands {number : Byte} (hw : hasOwnWriteRow number = false) (v : BitVec 16) (s : State) :
    Yields (BlocksStand s) (execRegWrite number v s) := by
  refine .onFrame (.refl s) ?_
  cases hn : registerOf number with
  | none => exact .next (.refl s)
  | some r =>
    have numbered := register_plain hw hn
    cases r with
    | settleLimit | accessLimit => exact .next (.writeInRange (.refl s))
    | config | hwm | ageLimit | irqStatus | irqEnable | resetRecord => exact absurd numbered (by decide)
    | policyA b | policyB b =>
      have := b.isLt
      simp only [Register.number] at numbered
      omega
    | _ => exact .next (.refl s)

theorem report_stands {c : Instr} {s t : State} (hw : c.wellFormed = true) (h : exec c s = .next t)
    (hc : isReport c = true) : BlocksStand s t := by
  suffices hy : Yields (BlocksStand s) (exec c s) from hy t h
  have stands : Yields (BlocksStand s) (.next s) := .next (.refl s)
  have framed : ∀ {u : State}, BlocksStand s u → Yields (BlocksStand s) (s.onFrame (.next u)) := fun hu =>
    .onFrame (.refl s) (.next hu)
  cases c with
  | invalidCommand frame => exact .cond (fun _ => framed (.refl s)) fun hn => absurd hw hn
  | status => exact framed (.refl s)
  | counterHighRead number =>
    refine .onFrame (.refl s) ?_
    split
    · exact .next (.refl s)
    next r _ => cases r <;> exact .next (.refl s)
  | regWrite number v => exact regWrite_stands (Bool.not_eq_true' _ ▸ hw) v s
  | irqStatusWrite v => exact framed (.writeInRange (.refl s))
  | irqEnableWrite v => exact framed (.writeInRange (.refl s))
  | resetRecordWrite v => exact framed (.writeInRange (.refl s))
  | regionRead entry => exact .onFrame (.refl s) (by split <;> exact .next (.refl s))
  | slotRead slot => exact .onFrame (.refl s) (by split <;> exact .next (.refl s))
  | faultPeek => exact .onFrame (.refl s) (by split <;> exact .next (.refl s))
  | faultPop => exact .onFrame (.refl s) (by split <;> exact .next (.refl s))
  | _ => cases hc

theorem leavesQueues_stands {c : Instr} {s t : State} (h : exec c s = .next t) (hc : leavesQueues c = true) :
    QueuesStand s t := by
  suffices hy : Yields (QueuesStand s) (exec c s) from hy t h
  cases c with
  | bankPolicyAWrite b v => exact .onFrame (.refl s) (.next (.writeInRange (.refl s)))
  | bankPolicyBWrite b v => exact .onFrame (.refl s) (.next (.writeInRange (.refl s)))
  | unlostOrder bank =>
    refine .onFrame (.refl s) (.next ?_)
    unfold State.order
    split
    · exact .refl s
    · split
      · unfold State.orderUnlost
        split <;> exact .refl s
      · exact .refl s
  | millisecondCounterStep =>
    refine .next ?_
    unfold State.milliStep State.tenMilliStep State.countBanks
    dsimp only
    split <;> exact ⟨rfl, rfl, rfl, rfl, rfl⟩
  | _ => cases hc

/-! ## The statement -/

/-- A statement that is asked only where a flag is clear. -/
theorem asked_unless {b : Bool} {P : Prop} (h : b = false → P) : bif b then True else P := by
  cases b with
  | true => trivial
  | false => exact h rfl

/-- A statement that is asked only where a flag is set. -/
theorem asked_when {b : Bool} {P Q : Prop} (h : b = true → P) (h' : Q) : bif b then P else Q := by
  cases b with
  | true => exact h rfl
  | false => exact h'

/-- A bank stays STUCK over a completion where the clear queue lists the CLEARING banks (R143). -/
theorem completion_stuck {s t : State} (hx : s.ClearQueueExact) {number : BitVec 8} {report : Report}
    {data : Vector Word 8} (h : exec (.completion number report data) s = .next t) (b : BankNo)
    (hb : (s.bankState b).isStuck = true) : t.bankState b = s.bankState b :=
  ((completion_leaves false (fun _ => hx) number report data t h).bank b).stuck rfl hb

/-- The rise of MCS ends the frame, and drives no input line besides (R189). -/
theorem faultPopRemoval_pins {s t : State} {shifted : Nat} (h : exec (.faultPopRemoval shifted) s = .next t) :
    t.pins = { s.pins with mcsLow := false } :=
  (Leaves.faultPopRemoval (w := { faults := true }) s rfl shifted t h).pins rfl

/-- Settles O21: each command writes what `writesOf` permits it, clause by clause. -/
theorem onlyTheirCommandsWriteTheseBlocks : Obligations.OnlyTheirCommandsWriteTheseBlocks := by
  intro c s t hw h
  have k := exec_leaves hw h
  refine ⟨k.pending, ?_, ?_, ?_, ?_, ?_, ?_, ?_, ?_, ?_, ?_, ?_, ?_, ?_, ?_, ?_, ?_, ?_, ?_, ?_, ?_, ?_⟩
  · have left := asked_unless k.regions
    cases c <;> exact left
  · have left := asked_unless k.regs
    cases c <;> exact left
  · have left := asked_unless k.clock
    cases c <;> exact left
  · have left := asked_unless k.pins
    cases c with
    | faultPopRemoval shifted => exact faultPopRemoval_pins h
    | powerOnReset => exact (powerOnReset_leaves h).2
    | _ => exact left
  · have left := asked_unless k.faults
    cases c <;> exact left
  · have left := asked_unless k.mode
    cases c <;> exact left
  · have left := asked_unless k.enables
    cases c <;> exact left
  · have left := asked_unless k.ended
    cases c <;> exact left
  · have left := asked_unless k.latches
    cases c <;> exact left
  · have left := asked_unless k.lines
    cases c <;> exact left
  · have left := asked_unless k.rise
    cases c <;> exact left
  · have left := asked_when (report_stands hw h) (asked_when (leavesQueues_stands h) trivial)
    cases c <;> exact left
  · have left := asked_unless fun hl b => (k.bank b).levels hl
    cases c <;> exact left
  · have left := asked_unless fun hl (_ : s.ClearQueueExact) b => (k.bank b).stuck hl
    cases c with
    | completion number report data => exact fun hx b hb => completion_stuck hx h b hb
    | _ => exact left
  · have left := asked_unless fun hl b => (k.bank b).lost hl
    cases c <;> exact left
  · have left := asked_unless fun hl b => (k.bank b).wakes hl
    cases c <;> exact left
  · have left := asked_unless k.flush
    cases c <;> exact left
  · have left := asked_unless k.warn
    cases c <;> exact left
  · have left := asked_unless k.clear
    cases c <;> exact left
  · have left := asked_unless k.inFlight
    cases c <;> exact left
  · have left := asked_unless k.requests
    cases c <;> exact left

end Sys2Proof.Machine

/-! A step with a command waiting (95). -/

namespace Sys2Proof.Machine

/-- Settles O1: of the two arms of `step`, a queue that is not empty selects the one that takes its front. -/
theorem stepTakesTheFrontCommand : Obligations.StepTakesTheFrontCommand := by
  intro c rest s waiting
  unfold step
  rw [waiting]

end Sys2Proof.Machine
